-- ==== Sys2Proof/Word.lean ====
section
/-! DEFINITION. The word types of the block: R11 (fixed widths), R60 (the 7-bit bus address), R99 (OP16 words). -/

namespace Sys2Proof

/-- A bus byte, the shift register, the staging buffer, a transmit result: 8 bits (R11). -/
abbrev Byte := BitVec 8

/-- A bus slave address: 7 bits (R11, R60). -/
abbrev BusAddr := BitVec 7

/-- An operation word: exactly 16 bits (R99). -/
abbrev Op16 := BitVec 16

end Sys2Proof
end

