-- ==== Sys2Proof/Syntax.lean ====
section
/-! DEFINITION. The operations of the block, one constructor per row of spec/opcode_table.json. -/

namespace Sys2Proof

/-- The eight protocol states, in the order of the source's table (R21, R81). -/
inductive EngState where
  | waitStart | addr | prepSend | send | recvAck | prepRecv | recv | recvProc
  deriving DecidableEq, Repr

/-- The identifiers that device references are drawn from: State is plain data, so a reference is written
as a number (log entry 3). Which of them are references is the parameter `Dev` of R9, the argument
`Config.Params.devs`; no operation does anything with the number but compare two of them (D28). -/
structure Dev where
  id : Nat
  deriving DecidableEq, Repr

/-- The device operand of an operation that has none. -/
def Dev.absent : Dev := ⟨0⟩

/-- One constructor per row of the opcode table (R84 to R93). -/
inductive Instr where
  /-- OVF.STOP (R153); `st` is the field ST of its label (R85). -/
  | ovfStop (st : EngState)
  /-- OVF.WAITSTART (R155). -/
  | ovfWaitStart
  /-- OVF.ADDR (R156). -/
  | ovfAddr
  /-- OVF.PREPSEND (R158). -/
  | ovfPrepSend
  /-- OVF.SEND (R160). -/
  | ovfSend
  /-- OVF.RECVACK (R161). -/
  | ovfRecvAck
  /-- OVF.PREPRECV (R163). -/
  | ovfPrepRecv
  /-- OVF.RECV (R165). -/
  | ovfRecv
  /-- OVF.RECVPROC (R166). -/
  | ovfRecvProc
  /-- START.H (R151). -/
  | startH
  /-- GRESUME.PREPSEND (R134). -/
  | gresumePrepSend
  /-- GRESUME.PREPRECV (R134). -/
  | gresumePrepRecv
  /-- BIT m (R220): `true` releases SDA, `false` pulls it low (R88). -/
  | bit (m : Bool)
  /-- BSTART (R221). -/
  | bstart
  /-- BSTOP (R222). -/
  | bstop
  /-- TICK (R132). -/
  | tick
  /-- INIT (R240). -/
  | init
  /-- REGISTER a, D (R110). `a` is the API-level value: one of 128 or more has no word and is
  refused (R243, R263 no. 3), so it is no well-formed operand (WellFormed.lean). -/
  | register (a : Nat) (d : Dev)
  /-- LOOKUP a (R112). -/
  | lookup (a : BusAddr)
  /-- TXCALL f (R241). -/
  | txcall (f : Bool)
  /-- RXCALL f, b (R242). -/
  | rxcall (f : Bool) (b : Byte)
  /-- LP.RELSDA (R201). -/
  | lpRelSda
  /-- LP.DRIVE b (R202). -/
  | lpDrive (b : Byte)
  /-- LP.ARM 1, the table's row 0xD201 (R92, R203). -/
  | lpArm1
  /-- LP.ARM 8, the table's row 0xD208 (R92, R203). -/
  | lpArm8
  /-- LP.ARMSTART (R204). -/
  | lpArmStart
  /-- LP.ACKSTART (R205). -/
  | lpAckStart
  /-- LP.CLRSTOP (R206). -/
  | lpClrStop
  /-- G.PREP (R131). -/
  | gPrep
  /-- G.WAIT (R133). -/
  | gWait
  deriving DecidableEq, Repr

/-- The second operand that stands outside the word: REGISTER's device reference (R90). -/
def Instr.devOperand : Instr → Dev
  | .register _ d => d
  | _ => Dev.absent

end Sys2Proof
end

