-- ==== Sys2Proof/Config.lean ====
section
/-! DEFINITION. The implementation parameters of R9, their constraints (R10), and the free values. -/

namespace Sys2Proof.Config

/-- The parameters of R9. The spec leaves every one OPEN, so the model takes them as an argument: the
field `cfg` of State, which no step writes (log entry 1). -/
structure Params where
  /-- P_REG_CAPACITY. -/
  regCapacity : Nat
  /-- P_GUARD_PRESENT. -/
  guardPresent : Bool
  /-- P_GUARD_CNT_W. -/
  guardCntW : Nat
  /-- P_GUARD_PRELOAD. -/
  guardPreload : Nat
  /-- P_GUARD_TOP, taken as given (R138). -/
  guardTop : Nat
  /-- P_F_CLK; read by no rule but its constraint (R9, R138). -/
  fClk : Nat
  /-- P_F_BUS_KHZ; read by no rule but its constraint (R9, R138). -/
  fBusKhz : Nat
  /-- P_BYTE_BUDGET; read by no rule but its constraint (R9, R246). R9 gives it the type "time" and no
  unit or representation: that it is a natural number, a count of an unnamed unit, is DESIGN CHOICE
  (log entry 1). -/
  byteBudget : Nat
  /-- Dev: the type of device references, an argument like the others, given by its carrier: the listed
  identifiers, or with `none` all of them. An opaque type with equality has nothing else (D28, I26). That
  it is given by a carrier among identifiers is DESIGN CHOICE (log entry 3). -/
  devs : Option (List Dev)
  deriving DecidableEq, Repr

/-- The constraints of R9. A configuration that breaks one is refused before any step (R10). -/
abbrev Params.Wf (p : Params) : Prop :=
  1 ≤ p.regCapacity ∧ 1 ≤ p.guardCntW ∧ p.guardPreload < p.guardTop ∧
  p.guardTop < 2 ^ p.guardCntW ∧ 0 < p.fClk ∧ 0 < p.fBusKhz ∧ 0 < p.byteBudget

/-- `d` is a reference of the type Dev (R9). -/
def Params.hasDev (p : Params) (d : Dev) : Bool :=
  match p.devs with
  | none => true
  | some l => decide (d ∈ l)

/-- The type Dev of a configuration (R9, D28). -/
abbrev Params.DevType (p : Params) : Type := { d : Dev // p.hasDev d = true }

/-- The parameters with the references of the type Dev renamed. -/
def Params.renameDevices (p : Params) (f : Dev → Dev) : Params :=
  { p with devs := p.devs.map fun l => l.map f }

/-- P_SLOT_W = max(1, ⌈log2 P_REG_CAPACITY⌉), derived (R9). -/
def Params.slotW (p : Params) : Nat :=
  max 1 (if p.regCapacity ≤ 1 then 0 else Nat.log2 (p.regCapacity - 1) + 1)

/-- P_GUARD_TICKS = P_GUARD_TOP − P_GUARD_PRELOAD, derived (R9). -/
def Params.guardTicks (p : Params) : Nat := p.guardTop - p.guardPreload

/-- The parameters State.reset is given: those of 95_test_vectors.md section 0 (capacity 4, guard
absent) and, for the guard, those of its section L2.3; every identifier is a device reference. DESIGN CHOICE, log entry 1: the spec leaves
them OPEN, and no statement rests on them. -/
def vectorParams : Params where
  regCapacity := 4
  guardPresent := false
  guardCntW := 4
  guardPreload := 2
  guardTop := 5
  fClk := 1
  fBusKhz := 1
  byteBudget := 1
  devs := none

/-- One answer of a device to one capability call (R248): a reply, of which `transmit` takes the
byte and `receive` takes the flag, or a stall (R244). Log entry 4. -/
inductive Answer where
  | reply (byte : Byte) (more : Bool)
  | stall
  deriving DecidableEq, Repr, Inhabited

/-- FREE VALUE: a device's answer at draw number `n`, once the answers written in the state for that
device are used up (R241, R242, R248, I4). No two calls share a draw number, so the answers of different
devices, and of one device's calls, are free of each other. Nothing constrains it. Log entry 4. -/
opaque freeAnswer : Nat → Answer

/-- FREE VALUE: USR after INIT ("any", R50, R302, I6). Log entry 5. -/
opaque anyUsr : Nat → Byte

/-- FREE VALUE: CNT_LEFT after INIT, before its bound of R33 is applied (R50, I6). Log entry 5. -/
opaque anyCntLeft : Nat → Nat

/-- FREE VALUE: ACTIVE_IDX after INIT, before its width of R22 is applied (R50, I6). Log entry 5. -/
opaque anyActiveIdx : Nat → Nat

/-- FREE VALUE: GCNT after INIT, before its width of R41 is applied (R50, I6). Log entry 5. -/
opaque anyGcnt : Nat → Nat

/-- FREE VALUE: GFLAG after INIT (R50, I6). Log entry 5. -/
opaque anyGflag : Nat → Bool

end Sys2Proof.Config
end

