-- ==== Sys2Proof/WellFormed.lean ====
section
/-! DEFINITION. Which operations can be written as an OP16 word. -/

namespace Sys2Proof

/-- The only operand that can leave its field is REGISTER's address: "`address: 7-bit integer`"
(R110, R243, R263 no. 3). Every other operand type is exactly as wide as its field (R84 to R93). -/
def Instr.wellFormed : Instr → Bool
  | .ovfStop _ => true
  | .ovfWaitStart => true
  | .ovfAddr => true
  | .ovfPrepSend => true
  | .ovfSend => true
  | .ovfRecvAck => true
  | .ovfPrepRecv => true
  | .ovfRecv => true
  | .ovfRecvProc => true
  | .startH => true
  | .gresumePrepSend => true
  | .gresumePrepRecv => true
  | .bit _ => true
  | .bstart => true
  | .bstop => true
  | .tick => true
  | .init => true
  | .register a _ => decide (a < 128)
  | .lookup _ => true
  | .txcall _ => true
  | .rxcall _ _ => true
  | .lpRelSda => true
  | .lpDrive _ => true
  | .lpArm1 => true
  | .lpArm8 => true
  | .lpArmStart => true
  | .lpAckStart => true
  | .lpClrStop => true
  | .gPrep => true
  | .gWait => true

end Sys2Proof
end

