-- ==== Sys2Proof/Decode.lean ====
section
/-! DEFINITION. OP16 decoding and encoding (R80 to R99), over one table of rows. -/

namespace Sys2Proof

/-! ## F-STATE, F-ADDR, F-ACK (R81 to R83) -/

/-- F-STATE: the code of a state (R81). -/
def stateCode : EngState → BitVec 3
  | .waitStart => 0
  | .addr => 1
  | .prepSend => 2
  | .send => 3
  | .recvAck => 4
  | .prepRecv => 5
  | .recv => 6
  | .recvProc => 7

/-- F-STATE: the state of a code; all eight codes are used (R81). -/
def stateOf (c : BitVec 3) : EngState :=
  match c.toNat with
  | 0 => .waitStart
  | 1 => .addr
  | 2 => .prepSend
  | 3 => .send
  | 4 => .recvAck
  | 5 => .prepRecv
  | 6 => .recv
  | _ => .recvProc

/-! ## The table -/

/-- A row of spec/opcode_table.json: a word `w` matches when `w AND mask = pattern`. -/
structure OpRow where
  mask : Op16
  pattern : Op16
  build : Op16 → Dev → Instr

/-- CLASS 0x0: the counter-overflow labels (R85). -/
def ovfRows : List OpRow := [
  ⟨0xF8FF, 0x0800, fun w _ => .ovfStop (stateOf (w.extractLsb' 8 3))⟩,
  ⟨0xFFFF, 0x0000, fun _ _ => .ovfWaitStart⟩,
  ⟨0xFFFF, 0x0100, fun _ _ => .ovfAddr⟩,
  ⟨0xFFFF, 0x0200, fun _ _ => .ovfPrepSend⟩,
  ⟨0xFFFF, 0x0300, fun _ _ => .ovfSend⟩,
  ⟨0xFFFF, 0x0400, fun _ _ => .ovfRecvAck⟩,
  ⟨0xFFFF, 0x0500, fun _ _ => .ovfPrepRecv⟩,
  ⟨0xFFFF, 0x0600, fun _ _ => .ovfRecv⟩,
  ⟨0xFFFF, 0x0700, fun _ _ => .ovfRecvProc⟩]

/-- CLASSES 0x1 to 0x6: start handler, guard resume, bus events, tick (R86 to R89). -/
def eventRows : List OpRow := [
  ⟨0xFFFF, 0x1000, fun _ _ => .startH⟩,
  ⟨0xFFFF, 0x2200, fun _ _ => .gresumePrepSend⟩,
  ⟨0xFFFF, 0x2500, fun _ _ => .gresumePrepRecv⟩,
  ⟨0xFFFE, 0x3000, fun w _ => .bit (w.getLsbD 0)⟩,
  ⟨0xFFFF, 0x4000, fun _ _ => .bstart⟩,
  ⟨0xFFFF, 0x5000, fun _ _ => .bstop⟩,
  ⟨0xFFFF, 0x6000, fun _ _ => .tick⟩]

/-- CLASSES 0x8 to 0xC: startup code, lookup, capability calls (R90, R91). -/
def callRows : List OpRow := [
  ⟨0xFFFF, 0x8000, fun _ _ => .init⟩,
  ⟨0xFF80, 0x9000, fun w d => .register (w.extractLsb' 0 7).toNat d⟩,
  ⟨0xFF80, 0xA000, fun w _ => .lookup (w.extractLsb' 0 7)⟩,
  ⟨0xFFFE, 0xB000, fun w _ => .txcall (w.getLsbD 0)⟩,
  ⟨0xFE00, 0xC000, fun w _ => .rxcall (w.getLsbD 8) (w.extractLsb' 0 8)⟩]

/-- CLASSES 0xD and 0xE: line primitives and guard operations (R92, R93). -/
def primitiveRows : List OpRow := [
  ⟨0xFFFF, 0xD000, fun _ _ => .lpRelSda⟩,
  ⟨0xFF00, 0xD100, fun w _ => .lpDrive (w.extractLsb' 0 8)⟩,
  ⟨0xFFFF, 0xD201, fun _ _ => .lpArm1⟩,
  ⟨0xFFFF, 0xD208, fun _ _ => .lpArm8⟩,
  ⟨0xFFFF, 0xD300, fun _ _ => .lpArmStart⟩,
  ⟨0xFFFF, 0xD400, fun _ _ => .lpAckStart⟩,
  ⟨0xFFFF, 0xD500, fun _ _ => .lpClrStop⟩,
  ⟨0xFFFF, 0xE000, fun _ _ => .gPrep⟩,
  ⟨0xFFFF, 0xE100, fun _ _ => .gWait⟩]

/-- The opcode table, in its own order. -/
def opRows : List OpRow := ovfRows ++ eventRows ++ callRows ++ primitiveRows

/-- Two rows overlap when some word matches both: they agree on the bits both masks fix. -/
def OpRow.overlaps (r q : OpRow) : Bool :=
  decide (r.pattern &&& (r.mask &&& q.mask) = q.pattern &&& (r.mask &&& q.mask))

/-- The row a word matches. -/
def rowOf (w : Op16) : Option OpRow :=
  opRows.find? fun r => decide (w &&& r.mask = r.pattern)

/-! ## Decoding -/

/-- Why a word is `Invalid`: the reserved encodings of R97, each under its own name. -/
inductive Reserved where
  /-- CLASS 0x7 or 0xF. -/
  | reservedClass
  /-- A nonzero bit in a field the class does not name. -/
  | reservedBits
  /-- `GRESUME` with ST not 2 or 5. -/
  | resumeState
  /-- `LP` with SUB from 6 to 15. -/
  | lineSub
  /-- `LP.ARM` with OPND not 1 or 8. -/
  | armCount
  /-- `G` with SUB from 2 to 15. -/
  | guardSub
  deriving DecidableEq, Repr

/-- The name R97 gives a word that matches no row. -/
def reservedName (w : Op16) : Reserved :=
  let sub := (w.extractLsb' 8 4).toNat
  match (w.extractLsb' 12 4).toNat with
  | 2 => if w &&& 0x08FF = 0 then .resumeState else .reservedBits
  | 7 => .reservedClass
  | 13 => if 6 ≤ sub then .lineSub else if sub = 2 then .armCount else .reservedBits
  | 14 => if 2 ≤ sub then .guardSub else .reservedBits
  | 15 => .reservedClass
  | _ => .reservedBits

/-- Decoding is total (R96): the operation of the row a word matches, or the name of the reserved
encoding. `d` is the operand outside the word (R90). -/
def decodeOrName (w : Op16) (d : Dev) : Except Reserved Instr :=
  match rowOf w with
  | some r => .ok (r.build w d)
  | none => .error (reservedName w)

/-- The operation of a word; `none` is R96's `Invalid`. -/
def decode (w : Op16) (d : Dev) : Option Instr :=
  match decodeOrName w d with
  | .ok i => some i
  | .error _ => none

/-- The instruction the decoder reads from the bits `w` of a table row of `nbits` bits. An OP16
operation is one 16-bit word (R99), so there is no byte order to apply. -/
def decodeTableWord (nbits w : Nat) : Option Instr :=
  if nbits ≤ 16 ∧ w < 2 ^ nbits then decode (BitVec.ofNat 16 w) Dev.absent else none

/-! ## Encoding -/

/-- A one-bit field at bit 0. -/
def bitField (b : Bool) : Op16 := if b then 1 else 0

/-- The OP16 word of an operation (R85 to R93). It is the operation's word only where the operation is
well formed: REGISTER with an address of 128 or more has no word (R243), and is offered as the call it
is (`registerOffer`, log entry 18). -/
def encode : Instr → Op16
  | .ovfStop st => (0x0800 : Op16) ||| ((stateCode st).setWidth 16 <<< 8)
  | .ovfWaitStart => 0x0000
  | .ovfAddr => 0x0100
  | .ovfPrepSend => 0x0200
  | .ovfSend => 0x0300
  | .ovfRecvAck => 0x0400
  | .ovfPrepRecv => 0x0500
  | .ovfRecv => 0x0600
  | .ovfRecvProc => 0x0700
  | .startH => 0x1000
  | .gresumePrepSend => 0x2200
  | .gresumePrepRecv => 0x2500
  | .bit m => 0x3000 ||| bitField m
  | .bstart => 0x4000
  | .bstop => 0x5000
  | .tick => 0x6000
  | .init => 0x8000
  | .register a _ => 0x9000 ||| (BitVec.ofNat 7 a).setWidth 16
  | .lookup a => 0xA000 ||| a.setWidth 16
  | .txcall f => 0xB000 ||| bitField f
  | .rxcall f b => (0xC000 : Op16) ||| (bitField f <<< 8) ||| b.setWidth 16
  | .lpRelSda => 0xD000
  | .lpDrive b => 0xD100 ||| b.setWidth 16
  | .lpArm1 => 0xD201
  | .lpArm8 => 0xD208
  | .lpArmStart => 0xD300
  | .lpAckStart => 0xD400
  | .lpClrStop => 0xD500
  | .gPrep => 0xE000
  | .gWait => 0xE100

end Sys2Proof
end

