-- ==== Sys2Proof/Machine/State.lean ====
section
/-! DEFINITION. The architectural state (10_state.md), as plain data, and the state at power-on. -/

namespace Sys2Proof.Machine

open Sys2Proof.Config (Params Answer)

/-- HPH, the handler phase (R26). Code 3 is never held, so it has no constructor. -/
inductive HandlerPhase where
  /-- No handler is running (code 0). -/
  | idle
  /-- The overflow handler busy-waits in `wait_until_safe()` (code 1). -/
  | gwait
  /-- The handler is inside a device call that never returns (code 2). -/
  | stalled
  deriving DecidableEq, Repr

/-- A filled registry slot: REG_ADDR[i] and REG_DEV[i] (R29). -/
structure Slot where
  addr : BusAddr
  dev : Dev
  deriving DecidableEq, Repr

/-- An entry of TRACE (R43): a bus bit `(m, s_out, d, ARMED)`, a start or a stop. -/
inductive TraceEvent where
  | bit (m s d armed : Bool)
  | start
  | stop
  deriving DecidableEq, Repr

/-- An entry of CALLS (R43): `TX(i, f, result)` or `RX(i, f, b, result)`. -/
inductive Call where
  | tx (slot : Nat) (first : Bool) (result : Byte)
  | rx (slot : Nat) (first : Bool) (byte : Byte) (more : Bool)
  deriving DecidableEq, Repr

/-- The fault codes of R262. -/
inductive FaultCode where
  /-- FT_OVF_IN_WAITSTART (1), raised by OVF.WAITSTART (R155). -/
  | ovfInWaitStart
  /-- FT_NO_ACTIVE (2), raised by a device call with no active slave (R159, R166). -/
  | noActive
  /-- FT_SPURIOUS_LINE (3), raised by an SDA change while SCL is not held (R210). -/
  | spuriousLine
  /-- FT_BAD_ARM (4), raised by LP.ARM and BIT (R203, R220). -/
  | badArm
  deriving DecidableEq, Repr

/-- The refusal codes of R263. -/
inductive RefusalCode where
  /-- RF_INVALID_OP (1). -/
  | invalidOp
  /-- RF_REGISTER_AFTER_INIT (2). -/
  | registerAfterInit
  /-- RF_ADDR_WIDTH (3). -/
  | addrWidth
  /-- RF_BAD_CONFIG (4). -/
  | badConfig
  /-- RF_INIT_TWICE (5). -/
  | initTwice
  deriving DecidableEq, Repr

/-- The value a micro-operation run by its own word hands back (R112, R241, R242). Model field,
log entry 6. -/
inductive MicroResult where
  | none
  /-- What `Lookup` returned. -/
  | slot (r : Option Nat)
  /-- What `CallTransmit` returned. -/
  | byte (v : Byte)
  /-- What `CallReceive` returned. -/
  | more (c : Bool)
  deriving DecidableEq, Repr

/-- One thing that is offered to be done next (R15, R68, R102). -/
inductive Offer where
  /-- An agent offers its step: an OP16 word, with the operand that stands outside it (R90). -/
  | word (w : Op16) (d : Dev)
  /-- The startup code calls `register(address, ops)`, which has no word when the address is too wide
  (R243, R261). -/
  | registerCall (address : Nat) (d : Dev)
  /-- No agent's step (R200): one micro-operation is run by its own word, as the vectors of
  95_test_vectors.md L2.4 run one. Model's own, log entry 6. -/
  | micro (w : Op16)
  deriving DecidableEq, Repr

/-- Everything the spec gives the block (10_state.md), the parameters it runs under (R9), and the
model's own input queues. -/
structure State where
  /-- The parameters of R9; no step writes them (log entry 1). -/
  cfg : Params
  /-- ENG_STATE (R21). -/
  engState : EngState
  /-- ACTIVE_VALID (R22). -/
  activeValid : Bool
  /-- ACTIVE_IDX, P_SLOT_W bits (R22). -/
  activeIdx : Nat
  /-- RXBUF (R23). -/
  rxbuf : Byte
  /-- FIRST (R24). -/
  first : Bool
  /-- HPH (R26). -/
  hph : HandlerPhase
  /-- ENG_LIVE (R27). -/
  engLive : Bool
  /-- The filled slots in insertion order: REG_ADDR and REG_DEV; REG_COUNT is its length (R29). -/
  registry : List Slot
  /-- REG_OVF (R30). -/
  regOvf : Bool
  /-- REG_DUP (R30). -/
  regDup : Bool
  /-- USR (R32). -/
  usr : Byte
  /-- CNT_LEFT, a 4-bit counter (R33). -/
  cntLeft : BitVec 4
  /-- ARMED (R34). -/
  armed : Bool
  /-- OVF_FLAG (R36). -/
  ovfFlag : Bool
  /-- START_FLAG (R37). -/
  startFlag : Bool
  /-- STOP_FLAG (R38). -/
  stopFlag : Bool
  /-- SDA_OE (R39). -/
  sdaOe : Bool
  /-- GCNT, P_GUARD_CNT_W bits (R41). -/
  gcnt : Nat
  /-- GFLAG (R42). -/
  gflag : Bool
  /-- TRACE, oldest first (R43). -/
  trace : List TraceEvent
  /-- CALLS, oldest first (R43). -/
  calls : List Call
  /-- FAULT: the code and the OP16 label of the step that raised it (R43, R261). -/
  fault : Option (FaultCode × Op16)
  /-- REFUSED: the code and the refused word, if it has one (R43, R261). -/
  refused : Option (RefusalCode × Option Op16)
  /-- Model's own: the device answers still to be given, oldest first (R248; log entry 4). -/
  answers : List (Dev × Answer)
  /-- Model's own: how many free values have been drawn (log entries 4 and 5). -/
  draws : Nat
  /-- Model's own: what the last stand-alone micro-operation returned (log entry 6). -/
  result : MicroResult
  /-- Model's own: the steps chosen to be taken next, of any agent (R15, R68; log entry 2). -/
  schedule : List Offer
  /-- Model's own: the operations of a program, run under the eager schedule (R102; log entry 2). -/
  program : List Offer
  deriving DecidableEq, Repr

/-- Why the machine stops for good. -/
inductive Fault where
  /-- Answered by every step of a state whose FAULT is recorded: "No further step of any agent is
  enabled" (R261). Safe: the spec says the same. -/
  | recorded (code : FaultCode)
  /-- ST_STALLED, answered by `step` when a device call never returned and nothing is left to be
  tried: the stuck outcome of R244 and R265. Safe: the spec says the same. -/
  | stalled
  deriving DecidableEq, Repr

/-- Why there is no step. -/
inductive Refusal where
  /-- Answered by an arm of exec whose instruction has no meaning yet; no arm does. Safe. -/
  | notModelled (mnemonic : String)
  /-- Answered by a meaning whose enabling condition is false: "A step whose condition is false does
  not exist" (R15), and a program that lists it is stuck there (R102). Answered by `step` when an agent
  offers a micro-operation, which is no step (R200). Safe. -/
  | notEnabled (word : Op16)
  /-- Answered by `step` when no agent's step is chosen and no engine step is enabled: the block
  waits for its master (R266). Safe. -/
  | noStep
  deriving DecidableEq, Repr

/-- The block at power-on under the parameters `p` (R50, R300). Every field marked "any" there has
the value named in log entry 7. -/
def State.powerOn (p : Params) : State where
  cfg := p
  engState := .waitStart
  activeValid := false
  activeIdx := 0
  rxbuf := 0
  first := false
  hph := .idle
  engLive := false
  registry := []
  regOvf := false
  regDup := false
  usr := 0
  cntLeft := 0
  armed := false
  ovfFlag := false
  startFlag := false
  stopFlag := false
  sdaOe := false
  gcnt := 0
  gflag := false
  trace := []
  calls := []
  fault := none
  refused := none
  answers := []
  draws := 0
  result := .none
  schedule := []
  program := []

/-- The machine at power-on (R300), with the parameters of log entry 1. -/
def State.reset : State := State.powerOn Config.vectorParams

end Sys2Proof.Machine
end

