-- ==== Sys2Proof/Machine/Flags.lean ====
section
/-! DEFINITION. The line values, the conditions computed from the flags, and when a step is enabled. -/

namespace Sys2Proof.Machine

/-- SCL_HELD (R35). -/
def State.sclHeld (s : State) : Bool := s.engLive && (s.ovfFlag || s.startFlag)

/-- The slave's drive of SDA: `s_out` of R39, 1 for released. -/
def State.sOut (s : State) : Bool := if s.engLive && s.sdaOe then s.usr.getLsbD 7 else true

/-- REG_COUNT (R29). -/
def State.regCount (s : State) : Nat := s.registry.length

/-- START.H is enabled (R151; `FAULT = none` is checked once, in `guarded`). -/
abbrev State.StartEnabled (s : State) : Prop :=
  s.engLive = true ∧ s.hph = .idle ∧ s.startFlag = true

/-- The counter-overflow handler is enabled (R152), after START.H when both are pending (R270). -/
abbrev State.OvfEnabled (s : State) : Prop :=
  s.engLive = true ∧ s.hph = .idle ∧ s.ovfFlag = true ∧ s.startFlag = false

/-- GRESUME is enabled (R134). It belongs to a handler, so not before INIT (R27). -/
abbrev State.ResumeEnabled (s : State) : Prop :=
  s.engLive = true ∧ s.hph = .gwait ∧ s.gflag = true

/-- The master can make a start or a stop (R221, R222). -/
abbrev State.BusConditionEnabled (s : State) : Prop :=
  (s.ovfFlag = false ∨ s.engLive = false) ∧ s.sOut = true

/-- The guard counter after a tick (R132). -/
def State.gcntNext (s : State) : Nat := (s.gcnt + 1) % 2 ^ s.cfg.guardCntW

/-- The guard does not hold the handler (R133). -/
abbrev State.GuardOpen (s : State) : Prop := s.cfg.guardPresent = false ∨ s.gflag = true

end Sys2Proof.Machine
end

