-- ==== Sys2Proof/Machine/Operands.lean ====
section
/-! DEFINITION. Operand assembly (R94, R95), step labels (R103) and the packed views (R44, R45). -/

namespace Sys2Proof.Machine

/-- The 7-bit address of an address byte: `b[7:1]` (R64, R82, R94). -/
def addrOf (b : Byte) : BusAddr := b.extractLsb' 1 7

/-- The direction bit of an address byte: `b[0]`, 1 for a read (R64, R82). -/
def rwOf (b : Byte) : Bool := b.getLsbD 0

/-- The ACK bit shifted in: `USR[0]`, 0 for ACK (R83, R95). -/
def ackBitOf (b : Byte) : Bool := b.getLsbD 0

/-- One shift of USR: `{USR[6:0], d}` (R32, R220). -/
def shiftIn (u : Byte) (d : Bool) : Byte := (u <<< 1) ||| (if d then 1 else 0)

/-- The byte an ACK is driven with: only bit 7 reaches the bus (R95). -/
def ackDrive : Byte := 0x00

/-- The bits of a byte in wire order, MSB first (R63). -/
def wireBits (b : Byte) : List Bool :=
  [b.getLsbD 7, b.getLsbD 6, b.getLsbD 5, b.getLsbD 4,
   b.getLsbD 3, b.getLsbD 2, b.getLsbD 1, b.getLsbD 0]

/-- The address byte `{A[6:0], RW}` (R64). -/
def addressByte (a : BusAddr) (rw : Bool) : Byte :=
  (a.setWidth 8 <<< 1) ||| (if rw then 1 else 0)

/-- A flag as a number. -/
def bitOf (b : Bool) : BitVec 16 := if b then 1 else 0

/-- The label of the start handler (R103). -/
def startLabel : Op16 := 0x1000

/-- The label of the counter-overflow handler: `(STOP_FLAG << 11) OR (ENG_STATE << 8)` (R103). -/
def State.ovfLabel (s : State) : Op16 :=
  (bitOf s.stopFlag <<< 11) ||| ((stateCode s.engState).setWidth 16 <<< 8)

/-- The label of the guard resume: `0x2000 OR (ENG_STATE << 8)` (R103). -/
def State.resumeLabel (s : State) : Op16 :=
  (0x2000 : Op16) ||| ((stateCode s.engState).setWidth 16 <<< 8)

/-- The code of HPH (R26). -/
def phaseCode : HandlerPhase → BitVec 2
  | .idle => 0
  | .gwait => 1
  | .stalled => 2

/-- ENGW, the packed engine view (R44). -/
def State.engw (s : State) : BitVec 16 :=
  (stateCode s.engState).setWidth 16 ||| (bitOf s.first <<< 3) ||| (bitOf s.activeValid <<< 4) |||
  ((phaseCode s.hph).setWidth 16 <<< 5) ||| (bitOf s.engLive <<< 7) ||| (s.rxbuf.setWidth 16 <<< 8)

/-- PSTAT, the packed peripheral view (R45). -/
def State.pstat (s : State) : BitVec 16 :=
  s.cntLeft.setWidth 16 ||| (bitOf s.sdaOe <<< 8) ||| (bitOf s.armed <<< 9) |||
  (bitOf s.stopFlag <<< 10) ||| (bitOf s.ovfFlag <<< 11) ||| (bitOf s.startFlag <<< 12)

end Sys2Proof.Machine
end

