-- ==== Sys2Proof/Machine/Ops.lean ====
section
/-! DEFINITION. The shared operations: outcomes of a step (R261), line primitives (R201 to R206), the
guard (R131, R133), the registry lookup (R112), the capability calls (R241, R242, R244) and the
procedures of the state machine (R154, R157, R159, R162, R164, R167). -/

namespace Sys2Proof.Machine

open Sys2Proof.Config (Answer)

/-! ## Outcomes -/

/-- How a stretch of a handler ends (R261). -/
inductive Micro (α : Type) where
  /-- It made its writes; the caller goes on, with a value. -/
  | ok (a : α) (s : State)
  /-- The invocation pauses or never ends (R264, R265): nothing after this point runs. -/
  | hold (s : State)
  /-- It raised a fault. -/
  | fault (c : FaultCode)

/-- Go on with `f` where `m` went on. -/
def Micro.bind {α β : Type} (m : Micro α) (f : α → State → Micro β) : Micro β :=
  match m with
  | .ok a s => f a s
  | .hold s => .hold s
  | .fault c => .fault c

/-- Go on with `f` where `m`, which returns nothing, went on. -/
def Micro.andThen {β : Type} (m : Micro Unit) (f : State → Micro β) : Micro β :=
  m.bind fun _ s => f s

/-- `raise Fault(code)`: the state is the one before the step, with FAULT recorded (R261). -/
def State.raiseFault (s : State) (c : FaultCode) (label : Op16) : State :=
  { s with fault := some (c, label) }

/-- `refuse(code)`: nothing changes but REFUSED, and the first refusal is kept (R43, R261). -/
def State.refuse (s : State) (c : RefusalCode) (w : Option Op16) : State :=
  { s with refused := s.refused.or (some (c, w)) }

/-- What every step of every agent shares: no step after a fault (R261), every step refused under a
configuration that breaks R9 (R10, R263), and no step whose condition is false (R15). -/
def guarded (word : Op16) (enabled : Prop) [Decidable enabled] (s : State)
    (k : Host.Outcome State Fault Refusal) : Host.Outcome State Fault Refusal :=
  match s.fault with
  | some (c, _) => .fault (.recorded c)
  | none =>
    if s.cfg.Wf then
      if enabled then k else .refused (.notEnabled word)
    else .next (s.refuse .badConfig none)

/-- The outcome of the step `label` from `s` whose writes are `m` (R261). -/
def finish (label : Op16) (s : State) (m : Micro Unit) : Host.Outcome State Fault Refusal :=
  match m with
  | .ok _ t => .next t
  | .hold t => .next t
  | .fault c => .next (s.raiseFault c label)

/-! ## Line primitives -/

/-- LP.RELSDA (R201, R210). -/
def lpRelSda (s : State) : Micro Unit :=
  if s.sclHeld then .ok () { s with sdaOe := false } else .fault .spuriousLine

/-- LP.DRIVE b (R202, R210). -/
def lpDrive (b : Byte) (s : State) : Micro Unit :=
  if s.sclHeld then .ok () { s with usr := b, sdaOe := true } else .fault .spuriousLine

/-- LP.ARM n (R203). -/
def lpArm (n : Nat) (s : State) : Micro Unit :=
  if n = 1 ∨ n = 8 then
    .ok () { s with armed := true, cntLeft := BitVec.ofNat 4 n, ovfFlag := false }
  else .fault .badArm

/-- LP.ARMSTART (R204, R210). -/
def lpArmStart (s : State) : Micro Unit :=
  if s.sclHeld then
    .ok () { s with sdaOe := false, armed := false, stopFlag := false, ovfFlag := false }
  else .fault .spuriousLine

/-- LP.ACKSTART (R205). -/
def lpAckStart (s : State) : State := { s with startFlag := false }

/-- LP.CLRSTOP (R206). -/
def lpClrStop (s : State) : State := { s with stopFlag := false }

/-! ## The guard -/

/-- G.PREP (R131); without a guard it changes nothing (R135). -/
def gPrep (s : State) : State :=
  { s with
    gcnt := if s.cfg.guardPresent then s.cfg.guardPreload else s.gcnt
    gflag := if s.cfg.guardPresent then false else s.gflag }

/-- TICK (R132); without a guard it changes nothing (R135). -/
def guardTick (s : State) : State :=
  { s with
    gcnt := if s.cfg.guardPresent then s.gcntNext else s.gcnt
    gflag := if s.cfg.guardPresent && decide (s.gcntNext = s.cfg.guardTop) then true else s.gflag }

/-- G.WAIT (R133): no wait, or the hold HD_GWAIT (R264). -/
def gWait (s : State) : Micro Unit :=
  if s.GuardOpen then .ok () s else .hold { s with hph := .gwait }

/-! ## The registry -/

/-- The first slot, counted from 0, that holds the address (R112). -/
def firstMatch : List Slot → BusAddr → Option Nat
  | [], _ => none
  | r :: rest, a => if r.addr = a then some 0 else (firstMatch rest a).map (· + 1)

/-- `Lookup(a)` (R112). -/
def State.lookup (s : State) (a : BusAddr) : Option Nat := firstMatch s.registry a

/-- REG_DEV[i], for `i < REG_COUNT` (R29). -/
def State.slotDev? (s : State) (i : Nat) : Option Dev := (s.registry[i]?).map Slot.dev

/-- Some filled slot already holds the address (R110). -/
def State.addrTaken (s : State) (a : BusAddr) : Bool := s.registry.any fun r => decide (r.addr = a)

/-- The body of REGISTER past its refusals (R110, R111, R113). -/
def insertSlot (a : BusAddr) (d : Dev) (s : State) : State :=
  if s.regCount = s.cfg.regCapacity then { s with regOvf := true }
  else { s with registry := s.registry ++ [⟨a, d⟩], regDup := s.regDup || s.addrTaken a }

/-! ## Capability calls -/

/-- The oldest answer waiting for device `d`, and the answers without it (R248). -/
def takeAnswer (d : Dev) : List (Dev × Answer) → Option (Answer × List (Dev × Answer))
  | [] => none
  | (e, a) :: rest =>
    if e = d then some (a, rest)
    else (takeAnswer d rest).map fun p => (p.1, (e, a) :: p.2)

/-- The next answer of device `d`, the answers left waiting, and the count of free values drawn: the
oldest waiting answer, else a free value (R248, I4; log entry 4). -/
def nextAnswer (d : Dev) (waiting : List (Dev × Answer)) (n : Nat) :
    Answer × List (Dev × Answer) × Nat :=
  match takeAnswer d waiting with
  | some (a, rest) => (a, rest, n)
  | none => (Config.freeAnswer n, waiting, n + 1)

/-- The device answers (R248). Slots that hold the same device draw from one sequence. -/
def State.drawAnswer (s : State) (d : Dev) : Answer × State :=
  let q := nextAnswer d s.answers s.draws
  (q.1, { s with answers := q.2.1, draws := q.2.2 })

/-- A device call never returns (R244). -/
def State.stall (s : State) : State := { s with hph := .stalled }

/-- `CallTransmit(i, f)` (R241, R244). A slot that is not filled breaks INV3: FT_NO_ACTIVE (log
entry 8). -/
def callTransmit (i : Nat) (f : Bool) (s : State) : Micro Byte :=
  match s.slotDev? i with
  | none => .fault .noActive
  | some d =>
    match s.drawAnswer d with
    | (.reply v _, t) => .ok v { t with calls := t.calls ++ [.tx i f v] }
    | (.stall, t) => .hold t.stall

/-- `CallReceive(i, f, b)` (R242, R244). -/
def callReceive (i : Nat) (f : Bool) (b : Byte) (s : State) : Micro Bool :=
  match s.slotDev? i with
  | none => .fault .noActive
  | some d =>
    match s.drawAnswer d with
    | (.reply _ c, t) => .ok c { t with calls := t.calls ++ [.rx i f b c] }
    | (.stall, t) => .hold t.stall

/-! ## Procedures of the state machine -/

/-- EnterWaitStart (R154). -/
def enterWaitStart (s : State) : Micro Unit :=
  lpArmStart { s with engState := .waitStart, activeValid := false }

/-- EnterAddr (R167). -/
def enterAddr (s : State) : Micro Unit :=
  (lpRelSda { s with engState := .addr }).andThen (lpArm 8)

/-- PrepSendCont (R159). -/
def prepSendCont (s : State) : Micro Unit :=
  if s.activeValid then
    (callTransmit s.activeIdx s.first s).bind fun v t =>
      (lpDrive v { t with first := false, engState := .send }).andThen (lpArm 8)
  else .fault .noActive

/-- DoPrepSend (R157). -/
def doPrepSend (s : State) : Micro Unit :=
  (gWait { s with engState := .prepSend }).andThen prepSendCont

/-- PrepRecvCont (R164). -/
def prepRecvCont (s : State) : Micro Unit :=
  (lpRelSda { s with engState := .recv }).andThen (lpArm 8)

/-- DoPrepRecv (R162). -/
def doPrepRecv (s : State) : Micro Unit :=
  (gWait { s with engState := .prepRecv }).andThen prepRecvCont

/-! ## Taking an interrupt -/

/-- The entry of the counter-overflow handler (R152, R271): taking it saves nothing and changes no
mode; G.PREP comes first; then the label, which is STOP_FLAG and ENG_STATE, selects the action. The
invocation returns by its last write (R211, R272), so there is no return operation. -/
def overflowStep (i : Instr) (stop : Bool) (st : EngState) (action : State → Micro Unit)
    (s : State) : Host.Outcome State Fault Refusal :=
  guarded (encode i) (s.OvfEnabled ∧ s.stopFlag = stop ∧ s.engState = st) s
    (finish (encode i) s (action (gPrep s)))

/-- The end of a guard wait (R134): the invocation goes on where it held. -/
def resumeStep (i : Instr) (st : EngState) (cont : State → Micro Unit)
    (s : State) : Host.Outcome State Fault Refusal :=
  guarded (encode i) (s.ResumeEnabled ∧ s.engState = st) s
    (finish (encode i) s (cont { s with hph := .idle }))

/-- A micro-operation run by its own word (log entry 6). -/
def microStep (i : Instr) (m : State → Micro Unit) (s : State) :
    Host.Outcome State Fault Refusal :=
  guarded (encode i) True s (finish (encode i) s (m s))

end Sys2Proof.Machine
end

