-- ==== Sys2Proof/Machine/Bus.lean ====
section
/-! DEFINITION. What the peripheral does on the master's events (R220 to R223). -/

namespace Sys2Proof.Machine

/-- The sampled SDA value of a bus bit: wired-AND of the two drives (R40). -/
def State.sampled (s : State) (m : Bool) : Bool := m && s.sOut

/-- The TRACE entry of a bus bit (R220). -/
def State.bitEvent (s : State) (m : Bool) : TraceEvent := .bit m s.sOut (s.sampled m) s.armed

/-- One bus bit (R220): the trace entry, and the shift while the peripheral is armed. -/
def busBit (m : Bool) (s : State) : Micro Unit :=
  let t := { s with trace := s.trace ++ [s.bitEvent m] }
  if s.engLive && s.armed then
    if s.cntLeft = 0 then .fault .badArm
    else .ok ()
      { t with
        usr := shiftIn s.usr (s.sampled m)
        cntLeft := s.cntLeft - 1
        ovfFlag := if s.cntLeft - 1 = 0 then true else s.ovfFlag }
  else .ok () t

/-- BIT m (R220): enabled while SCL is not held. -/
def execBit (m : Bool) (s : State) : Host.Outcome State Fault Refusal :=
  guarded (encode (.bit m)) (s.sclHeld = false) s (finish (encode (.bit m)) s (busBit m s))

/-- BSTART (R221, R223). -/
def execBstart (s : State) : Host.Outcome State Fault Refusal :=
  guarded (encode .bstart) s.BusConditionEnabled s
    (.next { s with
      trace := s.trace ++ [.start]
      startFlag := if s.engLive then true else s.startFlag })

/-- BSTOP (R222, R223). -/
def execBstop (s : State) : Host.Outcome State Fault Refusal :=
  guarded (encode .bstop) s.BusConditionEnabled s
    (.next { s with
      trace := s.trace ++ [.stop]
      stopFlag := if s.engLive then true else s.stopFlag })

end Sys2Proof.Machine
end

