-- ==== Sys2Proof/Machine/Calls.lean ====
section
/-! DEFINITION. The capability calls run by their own words (R241, R242); the slot is ACTIVE_IDX (R91). -/

namespace Sys2Proof.Machine

/-- TXCALL f (R241). With ACTIVE_VALID = 0 it is "a device call with `ACTIVE_VALID = 0`" (R262). -/
def txCall (f : Bool) (s : State) : Micro Unit :=
  if s.activeValid then
    (callTransmit s.activeIdx f s).bind fun v t => .ok () { t with result := .byte v }
  else .fault .noActive

/-- TXCALL f (R241). -/
def execTxcall (f : Bool) (s : State) : Host.Outcome State Fault Refusal :=
  microStep (.txcall f) (txCall f) s

/-- RXCALL f, b (R242). -/
def rxCall (f : Bool) (b : Byte) (s : State) : Micro Unit :=
  if s.activeValid then
    (callReceive s.activeIdx f b s).bind fun c t => .ok () { t with result := .more c }
  else .fault .noActive

/-- RXCALL f, b (R242). -/
def execRxcall (f : Bool) (b : Byte) (s : State) : Host.Outcome State Fault Refusal :=
  microStep (.rxcall f b) (rxCall f b) s

end Sys2Proof.Machine
end

