-- ==== Sys2Proof/Machine/Guard.lean ====
section
/-! DEFINITION. The clock-stretch timing guard: TICK (R132), G.PREP (R131), G.WAIT (R133). -/

namespace Sys2Proof.Machine

/-- TICK (R132): the guard counter's own step, enabled in every state with FAULT = none. -/
def execTick (s : State) : Host.Outcome State Fault Refusal :=
  guarded (encode .tick) True s (.next (guardTick s))

/-- G.PREP run by its own word (R131). -/
def execGPrep (s : State) : Host.Outcome State Fault Refusal :=
  microStep .gPrep (fun t => .ok () (gPrep t)) s

/-- G.WAIT run by its own word (R133). -/
def execGWait (s : State) : Host.Outcome State Fault Refusal := microStep .gWait gWait s

end Sys2Proof.Machine
end

