-- ==== Sys2Proof/Machine/Handlers.lean ====
section
/-! DEFINITION. The start-condition handler (R151) and the guard resume (R134). -/

namespace Sys2Proof.Machine

/-- The body of the start handler (R151). -/
def startBody (s : State) : Micro Unit :=
  (enterAddr (lpClrStop s)).andThen fun t => .ok () (lpAckStart t)

/-- START.H (R151, R174). -/
def execStartH (s : State) : Host.Outcome State Fault Refusal :=
  guarded (encode .startH) s.StartEnabled s (finish (encode .startH) s (startBody s))

/-- GRESUME.PREPSEND (R134). -/
def execGresumePrepSend (s : State) : Host.Outcome State Fault Refusal :=
  resumeStep .gresumePrepSend .prepSend prepSendCont s

/-- GRESUME.PREPRECV (R134). -/
def execGresumePrepRecv (s : State) : Host.Outcome State Fault Refusal :=
  resumeStep .gresumePrepRecv .prepRecv prepRecvCont s

end Sys2Proof.Machine
end

