-- ==== Sys2Proof/Machine/Line.lean ====
section
/-! DEFINITION. The line primitives run by their own words (R201 to R206). -/

namespace Sys2Proof.Machine

/-- LP.RELSDA (R201). -/
def execLpRelSda (s : State) : Host.Outcome State Fault Refusal := microStep .lpRelSda lpRelSda s

/-- LP.DRIVE b (R202). -/
def execLpDrive (b : Byte) (s : State) : Host.Outcome State Fault Refusal :=
  microStep (.lpDrive b) (lpDrive b) s

/-- LP.ARM 1 (R203). -/
def execLpArm1 (s : State) : Host.Outcome State Fault Refusal := microStep .lpArm1 (lpArm 1) s

/-- LP.ARM 8 (R203). -/
def execLpArm8 (s : State) : Host.Outcome State Fault Refusal := microStep .lpArm8 (lpArm 8) s

/-- LP.ARMSTART (R204). -/
def execLpArmStart (s : State) : Host.Outcome State Fault Refusal :=
  microStep .lpArmStart lpArmStart s

/-- LP.ACKSTART (R205). -/
def execLpAckStart (s : State) : Host.Outcome State Fault Refusal :=
  microStep .lpAckStart (fun t => .ok () (lpAckStart t)) s

/-- LP.CLRSTOP (R206). -/
def execLpClrStop (s : State) : Host.Outcome State Fault Refusal :=
  microStep .lpClrStop (fun t => .ok () (lpClrStop t)) s

end Sys2Proof.Machine
end

