-- ==== Sys2Proof/Machine/Overflow.lean ====
section
/-! DEFINITION. The counter-overflow handler, one meaning per label (R152 to R166). -/

namespace Sys2Proof.Machine

/-- OVF.STOP (R153): the label's ST is the state the stop is seen in. -/
def execOvfStop (st : EngState) (s : State) : Host.Outcome State Fault Refusal :=
  overflowStep (.ovfStop st) true st enterWaitStart s

/-- OVF.WAITSTART (R155, R98). -/
def execOvfWaitStart (s : State) : Host.Outcome State Fault Refusal :=
  overflowStep .ovfWaitStart false .waitStart (fun _ => .fault .ovfInWaitStart) s

/-- The decode of the address byte (R156). -/
def decodeAddress (s : State) : Micro Unit :=
  match s.lookup (addrOf s.usr) with
  | none => enterWaitStart s
  | some r =>
    (lpDrive ackDrive
      { s with
        activeValid := true
        activeIdx := r
        first := true
        engState := if rwOf s.usr then .prepSend else .prepRecv }).andThen (lpArm 1)

/-- OVF.ADDR (R156). -/
def execOvfAddr (s : State) : Host.Outcome State Fault Refusal :=
  overflowStep .ovfAddr false .addr decodeAddress s

/-- OVF.PREPSEND (R158). -/
def execOvfPrepSend (s : State) : Host.Outcome State Fault Refusal :=
  overflowStep .ovfPrepSend false .prepSend doPrepSend s

/-- The byte has been shifted out (R160). -/
def afterSend (s : State) : Micro Unit :=
  (lpRelSda { s with engState := .recvAck }).andThen (lpArm 1)

/-- OVF.SEND (R160). -/
def execOvfSend (s : State) : Host.Outcome State Fault Refusal :=
  overflowStep .ovfSend false .send afterSend s

/-- The master's ACK or NACK has been shifted in (R161). -/
def afterRecvAck (s : State) : Micro Unit :=
  if ackBitOf s.usr then enterWaitStart s else doPrepSend s

/-- OVF.RECVACK (R161). -/
def execOvfRecvAck (s : State) : Host.Outcome State Fault Refusal :=
  overflowStep .ovfRecvAck false .recvAck afterRecvAck s

/-- OVF.PREPRECV (R163). -/
def execOvfPrepRecv (s : State) : Host.Outcome State Fault Refusal :=
  overflowStep .ovfPrepRecv false .prepRecv doPrepRecv s

/-- A byte has been shifted in: stash it and drive the ACK (R165, R312). -/
def afterRecv (s : State) : Micro Unit :=
  (lpDrive ackDrive { s with rxbuf := s.usr, engState := .recvProc }).andThen (lpArm 1)

/-- OVF.RECV (R165). -/
def execOvfRecv (s : State) : Host.Outcome State Fault Refusal :=
  overflowStep .ovfRecv false .recv afterRecv s

/-- The ACK has been shifted out: hand the byte to the device (R166). -/
def afterRecvProc (s : State) : Micro Unit :=
  if s.activeValid then
    (callReceive s.activeIdx s.first s.rxbuf s).bind fun c t =>
      if c then doPrepRecv { t with first := false } else enterAddr { t with first := false }
  else .fault .noActive

/-- OVF.RECVPROC (R166). -/
def execOvfRecvProc (s : State) : Host.Outcome State Fault Refusal :=
  overflowStep .ovfRecvProc false .recvProc afterRecvProc s

end Sys2Proof.Machine
end

