-- ==== Sys2Proof/Machine/Startup.lean ====
section
/-! DEFINITION. The startup code: INIT (R240), REGISTER (R110 to R116) and LOOKUP (R112). -/

namespace Sys2Proof.Machine

/-- What INIT writes (R240, R50, R301). USR, CNT_LEFT, ACTIVE_IDX, GCNT and GFLAG are "any" after it:
free values, within the bounds of R22, R33 and R41 (log entry 5). -/
def initState (s : State) : State :=
  { s with
    engState := .waitStart
    activeValid := false
    activeIdx := Config.anyActiveIdx s.draws % 2 ^ s.cfg.slotW
    rxbuf := 0x00
    first := false
    hph := .idle
    usr := Config.anyUsr s.draws
    cntLeft := BitVec.ofNat 4 (Config.anyCntLeft s.draws % 9)
    sdaOe := false
    armed := false
    stopFlag := false
    startFlag := false
    ovfFlag := false
    gcnt := Config.anyGcnt s.draws % 2 ^ s.cfg.guardCntW
    gflag := Config.anyGflag s.draws
    draws := s.draws + 1
    engLive := true }

/-- INIT (R240); a second one is refused (R263 no. 5). -/
def execInit (s : State) : Host.Outcome State Fault Refusal :=
  guarded (encode .init) True s
    (.next (if s.engLive then s.refuse .initTwice (some (encode .init)) else initState s))

/-- REGISTER a, D (R110). The operand D is a reference of the configuration's type Dev (R9): of any other
identifier there is no REGISTER, so no step (log entry 3). An address of 128 or more is refused before it reaches the registry (R243,
R263 no. 3); a registration after INIT is refused (R114). -/
def execRegister (a : Nat) (d : Dev) (s : State) : Host.Outcome State Fault Refusal :=
  guarded (encode (.register a d)) (s.cfg.hasDev d = true) s
    (.next
      (if 128 ≤ a then s.refuse .addrWidth none
       else if s.engLive then s.refuse .registerAfterInit (some (encode (.register a d)))
       else insertSlot (BitVec.ofNat 7 a) d s))

/-- LOOKUP a (R112): it writes no state of the block; the slot found is its result (log entry 6). -/
def execLookup (a : BusAddr) (s : State) : Host.Outcome State Fault Refusal :=
  guarded (encode (.lookup a)) True s (.next { s with result := .slot (s.lookup a) })

end Sys2Proof.Machine
end

