-- ==== Sys2Proof/Machine/Dispatch.lean ====
section
/-! DEFINITION. One arm per operation. -/

namespace Sys2Proof.Machine

/-- The meaning of each operation. -/
def exec (i : Instr) (s : State) : Host.Outcome State Fault Refusal :=
  match i with
  | .ovfStop st => Sys2Proof.Machine.execOvfStop st s
  | .ovfWaitStart => Sys2Proof.Machine.execOvfWaitStart s
  | .ovfAddr => Sys2Proof.Machine.execOvfAddr s
  | .ovfPrepSend => Sys2Proof.Machine.execOvfPrepSend s
  | .ovfSend => Sys2Proof.Machine.execOvfSend s
  | .ovfRecvAck => Sys2Proof.Machine.execOvfRecvAck s
  | .ovfPrepRecv => Sys2Proof.Machine.execOvfPrepRecv s
  | .ovfRecv => Sys2Proof.Machine.execOvfRecv s
  | .ovfRecvProc => Sys2Proof.Machine.execOvfRecvProc s
  | .startH => Sys2Proof.Machine.execStartH s
  | .gresumePrepSend => Sys2Proof.Machine.execGresumePrepSend s
  | .gresumePrepRecv => Sys2Proof.Machine.execGresumePrepRecv s
  | .bit m => Sys2Proof.Machine.execBit m s
  | .bstart => Sys2Proof.Machine.execBstart s
  | .bstop => Sys2Proof.Machine.execBstop s
  | .tick => Sys2Proof.Machine.execTick s
  | .init => Sys2Proof.Machine.execInit s
  | .register a d => Sys2Proof.Machine.execRegister a d s
  | .lookup a => Sys2Proof.Machine.execLookup a s
  | .txcall f => Sys2Proof.Machine.execTxcall f s
  | .rxcall f b => Sys2Proof.Machine.execRxcall f b s
  | .lpRelSda => Sys2Proof.Machine.execLpRelSda s
  | .lpDrive b => Sys2Proof.Machine.execLpDrive b s
  | .lpArm1 => Sys2Proof.Machine.execLpArm1 s
  | .lpArm8 => Sys2Proof.Machine.execLpArm8 s
  | .lpArmStart => Sys2Proof.Machine.execLpArmStart s
  | .lpAckStart => Sys2Proof.Machine.execLpAckStart s
  | .lpClrStop => Sys2Proof.Machine.execLpClrStop s
  | .gPrep => Sys2Proof.Machine.execGPrep s
  | .gWait => Sys2Proof.Machine.execGWait s

end Sys2Proof.Machine
end

