-- ==== Sys2Proof/Machine/Agents.lean ====
section
/-! DEFINITION. Which agent owns which operation (R68, R200, R274). -/

namespace Sys2Proof.Machine

/-- The agents that have steps (R68). The devices answer inside the engine's calls, and the main loop
has no step on the block, so neither owns an operation. A micro-operation is no step of any agent
(R112, R131, R133, R200, R241, R242): it is run by its own word only as log entry 6 says. -/
inductive Agent where
  | engine | master | guardCounter | startup | microOperation
  deriving DecidableEq, Repr

/-- The owner of an operation (R68). -/
def agentOf : Instr → Agent
  | .ovfStop _ => .engine
  | .ovfWaitStart => .engine
  | .ovfAddr => .engine
  | .ovfPrepSend => .engine
  | .ovfSend => .engine
  | .ovfRecvAck => .engine
  | .ovfPrepRecv => .engine
  | .ovfRecv => .engine
  | .ovfRecvProc => .engine
  | .startH => .engine
  | .gresumePrepSend => .engine
  | .gresumePrepRecv => .engine
  | .bit _ => .master
  | .bstart => .master
  | .bstop => .master
  | .tick => .guardCounter
  | .init => .startup
  | .register _ _ => .startup
  | .lookup _ => .microOperation
  | .txcall _ => .microOperation
  | .rxcall _ _ => .microOperation
  | .lpRelSda => .microOperation
  | .lpDrive _ => .microOperation
  | .lpArm1 => .microOperation
  | .lpArm8 => .microOperation
  | .lpArmStart => .microOperation
  | .lpAckStart => .microOperation
  | .lpClrStop => .microOperation
  | .gPrep => .microOperation
  | .gWait => .microOperation

end Sys2Proof.Machine
end

