-- ==== Sys2Proof/Machine/Schedule.lean ====
section
/-! DEFINITION. Which step is taken next: the chosen steps (R15, R68), the engine's own step (R103,
R270), a program's next operation (R102). Log entry 2. -/

namespace Sys2Proof.Machine

/-- The label of the engine step that is enabled (R103); a pending start comes first (R270). -/
def State.engineLabel (s : State) : Option Op16 :=
  if s.StartEnabled then some startLabel
  else if s.OvfEnabled then some s.ovfLabel
  else if s.ResumeEnabled then some s.resumeLabel
  else none

/-- The next offer, and the state it is taken from. A step in `schedule` is taken as it stands; with
none there, the eager schedule of R102: an engine step while one is enabled, else the program's next
operation. -/
def State.fetch (s : State) : Option (Offer × State) :=
  match s.schedule with
  | o :: rest => some (o, { s with schedule := rest })
  | [] =>
    match s.engineLabel with
    | some w => some (.word w Dev.absent, s)
    | none =>
      match s.program with
      | o :: rest => some (o, { s with program := rest })
      | [] => none

/-- The operation of an offer; `none` is R96's `Invalid`. -/
def decodeOffer : Offer → Option Instr
  | .word w d => decode w d
  | .registerCall a d => some (.register a d)
  | .micro w => decode w Dev.absent

/-- Whether an offer may be of this operation: an agent's word is of a step that some agent owns, never
of a micro-operation (R68, R200), and only a micro-operation is run by itself (log entry 6). -/
def offerAllows (i : Instr) : Offer → Bool
  | .word _ _ => decide (agentOf i ≠ .microOperation)
  | .registerCall _ _ => true
  | .micro _ => decide (agentOf i = .microOperation)

/-- The word of an offer, where it has one (R261). -/
def offerWord : Offer → Option Op16
  | .word w _ => some w
  | .registerCall _ _ => none
  | .micro w => some w

/-- An `Invalid` word is refused with RF_INVALID_OP (R96, R263 no. 1). -/
def refuseInvalid (o : Offer) (s : State) : Host.Outcome State Fault Refusal :=
  guarded ((offerWord o).getD 0) True s (.next (s.refuse .invalidOp (offerWord o)))

/-- There is no step of this operation under any condition: as R15's false condition (R200). -/
def refuseNoAgentsStep (i : Instr) (s : State) : Host.Outcome State Fault Refusal :=
  guarded (encode i) False s (.next s)

/-- The answer of a step when there is nothing to take: ST_STALLED inside a call that never returns
(R244, R265), else the block waits (R266). -/
def noStepLeft (s : State) : Host.Outcome State Fault Refusal :=
  if s.hph = .stalled then .fault .stalled else .refused .noStep

/-- The state in which the overflow label `{STOP_FLAG, ENG_STATE}` is the engine's (R103, R152). -/
def selectOverflow (stop : Bool) (st : EngState) (s : State) : State :=
  { s with
    engLive := true, hph := .idle, ovfFlag := true, startFlag := false,
    stopFlag := stop, engState := st }

/-- The state in which the resume label of `st` is the engine's (R103, R134, R49 INV5). -/
def selectResume (st : EngState) (s : State) : State :=
  { s with
    engLive := true, hph := .gwait, gflag := true, ovfFlag := true, startFlag := false,
    engState := st }

/-- What selects an operation. The label of an engine step is no word a program writes: flags and
ENG_STATE select it (R28, R100, R103). Every other operation is selected by being offered. -/
def selectFor (i : Instr) (s : State) : State :=
  match i with
  | .ovfStop st => selectOverflow true st s
  | .ovfWaitStart => selectOverflow false .waitStart s
  | .ovfAddr => selectOverflow false .addr s
  | .ovfPrepSend => selectOverflow false .prepSend s
  | .ovfSend => selectOverflow false .send s
  | .ovfRecvAck => selectOverflow false .recvAck s
  | .ovfPrepRecv => selectOverflow false .prepRecv s
  | .ovfRecv => selectOverflow false .recv s
  | .ovfRecvProc => selectOverflow false .recvProc s
  | .startH => { s with engLive := true, hph := .idle, startFlag := true, ovfFlag := false }
  | .gresumePrepSend => selectResume .prepSend s
  | .gresumePrepRecv => selectResume .prepRecv s
  | .bit _ => s
  | .bstart => s
  | .bstop => s
  | .tick => s
  | .init => s
  | .register _ _ => s
  | .lookup _ => s
  | .txcall _ => s
  | .rxcall _ _ => s
  | .lpRelSda => s
  | .lpDrive _ => s
  | .lpArm1 => s
  | .lpArm8 => s
  | .lpArmStart => s
  | .lpAckStart => s
  | .lpClrStop => s
  | .gPrep => s
  | .gWait => s

/-- The offer of a bare word: an agent's, or a micro-operation's own. -/
def bareOffer (w : Op16) (i : Instr) : Offer :=
  if agentOf i = .microOperation then .micro w else .word w Dev.absent

/-- `s` with the word offered next, and selected where the word is an engine label. -/
def offerNext (w : Op16) (s : State) : State :=
  match decode w Dev.absent with
  | some i => { selectFor i s with schedule := bareOffer w i :: s.schedule }
  | none => { s with schedule := .word w Dev.absent :: s.schedule }

end Sys2Proof.Machine
end

