-- ==== Sys2Proof/Machine/Step.lean ====
section
/-! DEFINITION. One step of the block. -/

namespace Sys2Proof.Machine

/-- One step: of a faulted state there is none (R261); else the next offer is decoded and run, unless an
agent offers what is no agent's step (R200). -/
def step (s : State) : Host.Outcome State Fault Refusal :=
  match s.fault with
  | some (c, _) => .fault (.recorded c)
  | none =>
    match s.fetch with
    | none => noStepLeft s
    | some (o, t) =>
      match decodeOffer o with
      | some i => if offerAllows i o then exec i t else refuseNoAgentsStep i t
      | none => refuseInvalid o t

/-- `s` with the table word `w` of `nbits` bits where `step` takes its next operation from, and, for
an engine label, with the flags and the ENG_STATE that select it (log entry 2). -/
def State.withFetchWord (s : State) (nbits w : Nat) : State :=
  offerNext (BitVec.ofNat 16 (w % 2 ^ nbits)) s

end Sys2Proof.Machine
end

