-- ==== Sys2Proof/Machine/Program.lean ====
section
/-! DEFINITION. The master's pseudo-instructions (R101) and programs (R102). -/

namespace Sys2Proof.Machine

/-- The pseudo-instructions of R101. -/
inductive Pseudo where
  /-- M.START. -/
  | start
  /-- M.STOP. -/
  | stop
  /-- M.WBYTE b. -/
  | writeByte (b : Byte)
  /-- M.ADDR a, rw. -/
  | address (a : BusAddr) (rw : Bool)
  /-- M.RBYTE ACK (`true`) or M.RBYTE NACK (`false`). -/
  | readByte (ack : Bool)
  /-- M.TICKS n. -/
  | ticks (n : Nat)
  deriving DecidableEq, Repr

/-- The operations a pseudo-instruction expands to, in order (R101). -/
def Pseudo.expand : Pseudo → List Instr
  | .start => [.bstart]
  | .stop => [.bstop]
  | .writeByte b => (wireBits b).map .bit ++ [.bit true]
  | .address a rw => (wireBits (addressByte a rw)).map .bit ++ [.bit true]
  | .readByte ack => List.replicate 8 (.bit true) ++ [.bit (!ack)]
  | .ticks n => List.replicate n .tick

/-- The offer of a registration: REGISTER's word while the address has seven bits (R110), else the
API-level call, which is refused with RF_ADDR_WIDTH (R243). Log entry 18. -/
def registerOffer (a : Nat) (d : Dev) : Offer :=
  if a < 128 then .word (encode (.register a d)) d else .registerCall a d

/-- The offer of an operation that a program lists: its word and the operand outside it. -/
def offerOf : Instr → Offer
  | .register a d => registerOffer a d
  | i => .word (encode i) i.devOperand

/-- A program's start state (R102): the parameters, the device answers, and its operations, run under
the eager schedule: the registrations, INIT, then the listed operations. A registration's address is the
API-level value: one of 128 or more is offered as the call, and refused (R243; log entry 18). The devices
it names are of the configuration's own type Dev (R9). -/
def startProgram (p : Config.Params) (registers : List (Nat × p.DevType))
    (answers : List (p.DevType × Config.Answer)) (ops : List Instr) : State :=
  { State.powerOn p with
    answers := answers.map fun q => (q.1.val, q.2)
    program := (registers.map fun r => registerOffer r.1 r.2.val) ++ offerOf .init :: ops.map offerOf }

/-- Run the operations in order, each as its own step. -/
def execList : List Instr → State → Host.Outcome State Fault Refusal
  | [], s => .next s
  | i :: rest, s =>
    match exec i s with
    | .next t => execList rest t
    | .fault f => .fault f
    | .refused r => .refused r

/-- `n` ticks of the guard counter (R132). -/
def guardTicks : Nat → State → State
  | 0, s => s
  | n + 1, s => guardTicks n (guardTick s)

end Sys2Proof.Machine
end

