-- ==== Sys2Proof/Safety.lean ====
section
/-! DEFINITION. What a safe run is: the invariants of R49, the bounds of the fields, and the premises
claims take (R30, R261). -/

namespace Sys2Proof.Machine

/-- The fields keep their widths and legal values (R22, R29, R33, R41); REG_DEV[i] is a reference of the
configuration's type Dev (R9, R29). -/
abbrev State.WidthsOk (s : State) : Prop :=
  s.activeIdx < 2 ^ s.cfg.slotW ∧ s.registry.length ≤ s.cfg.regCapacity ∧
  s.cntLeft ≤ 8 ∧ s.gcnt < 2 ^ s.cfg.guardCntW ∧
  s.registry.all (fun r => s.cfg.hasDev r.dev) = true

/-- INV1 (R49). -/
abbrev State.Inv1 (s : State) : Prop :=
  s.hph = .idle → (s.armed = false ↔ s.engState = .waitStart)

/-- INV2 (R49). -/
abbrev State.Inv2 (s : State) : Prop := ¬ (s.ovfFlag = true ∧ s.startFlag = true)

/-- The states in which a slave is addressed (R49 INV3). -/
abbrev EngState.Addressed (e : EngState) : Prop :=
  e = .prepSend ∨ e = .send ∨ e = .recvAck ∨ e = .prepRecv ∨ e = .recv ∨ e = .recvProc

/-- INV3 (R49). -/
abbrev State.Inv3 (s : State) : Prop :=
  EngState.Addressed s.engState → s.activeValid = true ∧ s.activeIdx < s.regCount

/-- INV4 (R49). -/
abbrev State.Inv4 (s : State) : Prop :=
  s.armed = true → s.ovfFlag = false → 1 ≤ s.cntLeft ∧ s.cntLeft ≤ 8

/-- INV5 (R49). -/
abbrev State.Inv5 (s : State) : Prop :=
  (s.hph = .gwait → s.ovfFlag = true ∧ (s.engState = .prepSend ∨ s.engState = .prepRecv)) ∧
  (s.hph = .stalled → s.ovfFlag = true)

/-- INV6 (R49). -/
abbrev State.Inv6 (s : State) : Prop :=
  s.sdaOe = true →
    s.engState = .prepSend ∨ s.engState = .send ∨ s.engState = .prepRecv ∨ s.engState = .recvProc

/-- What INV1 to INV6 need beside them to be kept by every step: an overflow is pending only while the
peripheral is armed (R34, R269), and a handler waits for the guard only where there is one (R135).
DEDUCED, log entry 9. -/
abbrev State.InvAux (s : State) : Prop :=
  (s.ovfFlag = true → s.armed = true) ∧ (s.hph = .gwait → s.cfg.guardPresent = true)

/-- The offer is an agent's (R68), and not a micro-operation run by itself (log entry 6). -/
def agentOffer : Offer → Bool
  | .word _ _ => true
  | .registerCall _ _ => true
  | .micro _ => false

/-- Only agents' offers wait to be taken (R68, R200). -/
abbrev State.AgentsOnly (s : State) : Prop :=
  s.schedule.all agentOffer = true ∧ s.program.all agentOffer = true

/-! ## Device references are opaque (R9) -/

/-- The offer with its device renamed. -/
def Offer.renameDevice (f : Dev → Dev) : Offer → Offer
  | .word w d => .word w (f d)
  | .registerCall a d => .registerCall a (f d)
  | .micro w => .micro w

/-- The state with every device reference in it renamed: in the parameter Dev, the slots, the waiting
answers and the offers. No other field holds one. -/
def State.renameDevices (f : Dev → Dev) (s : State) : State :=
  { s with
    cfg := s.cfg.renameDevices f
    registry := s.registry.map fun r => ⟨r.addr, f r.dev⟩
    answers := s.answers.map fun p => (f p.1, p.2)
    schedule := s.schedule.map (Offer.renameDevice f)
    program := s.program.map (Offer.renameDevice f) }

/-- The invariant of a running block: R49 once INIT has run, no handler before it (R27), the bounds of
the fields, no fault, and only agents' steps to come. -/
abbrev State.Inv (s : State) : Prop :=
  s.fault = none ∧ s.WidthsOk ∧ s.AgentsOnly ∧
  (s.engLive = false → s.hph = .idle) ∧
  (s.engLive = true → s.Inv1 ∧ s.Inv2 ∧ s.Inv3 ∧ s.Inv4 ∧ s.Inv5 ∧ s.Inv6 ∧ s.InvAux)

/-- The premises the spec gives a claim about a configuration or a run: no registration dropped, no
duplicate address (R30, R116), and nothing refused (R261). -/
abbrev State.ClaimPremises (s : State) : Prop :=
  s.regOvf = false ∧ s.regDup = false ∧ s.refused = none

/-- The two conditions every step shares: no recorded fault (R261) and a configuration that keeps R9
(R10). -/
abbrev State.Ready (s : State) : Prop := s.fault = none ∧ s.cfg.Wf

/-- A safe step: it does not end in a recorded fault. -/
def SafeStep (s : State) : Prop :=
  ∀ t, step s = .next t → t.fault = none

end Sys2Proof.Machine
end

