-- ==== Sys2Proof/Certificates/Slice0/Obligations.lean ====
section
/-! DEFINITION. The statements for the provers, and the words they are written in. -/

open Sys2Proof Sys2Proof.Machine

/-! ## Words of the statements -/

/-- The reserved encodings of R97, field by field. -/
abbrev Sys2Proof.Spec.ReservedWord (w : Op16) : Prop :=
  let cls := w.extractLsb' 12 4
  let sub := w.extractLsb' 8 4
  let st := w.extractLsb' 8 3
  let opnd := w.extractLsb' 0 8
  cls = 0x7 ∨ cls = 0xF ∨
  (cls = 0x0 ∧ opnd ≠ 0) ∨
  ((cls = 0x1 ∨ cls = 0x4 ∨ cls = 0x5 ∨ cls = 0x6 ∨ cls = 0x8) ∧ w &&& 0x0FFF ≠ 0) ∨
  (cls = 0x2 ∧ ((st ≠ 2 ∧ st ≠ 5) ∨ w &&& 0x08FF ≠ 0)) ∨
  ((cls = 0x3 ∨ cls = 0xB) ∧ w &&& 0x0FFE ≠ 0) ∨
  ((cls = 0x9 ∨ cls = 0xA) ∧ w &&& 0x0F80 ≠ 0) ∨
  (cls = 0xC ∧ w &&& 0x0E00 ≠ 0) ∨
  (cls = 0xD ∧
    (6 ≤ sub ∨ (sub = 2 ∧ opnd ≠ 1 ∧ opnd ≠ 8) ∨ (sub ≠ 1 ∧ sub ≠ 2 ∧ opnd ≠ 0))) ∨
  (cls = 0xE ∧ (2 ≤ sub ∨ opnd ≠ 0))

/-- The overflow row a STOP_FLAG and an ENG_STATE select (R85, R152). -/
def Sys2Proof.Spec.overflowOf : Bool → EngState → Instr
  | true, st => .ovfStop st
  | false, .waitStart => .ovfWaitStart
  | false, .addr => .ovfAddr
  | false, .prepSend => .ovfPrepSend
  | false, .send => .ovfSend
  | false, .recvAck => .ovfRecvAck
  | false, .prepRecv => .ovfPrepRecv
  | false, .recv => .ovfRecv
  | false, .recvProc => .ovfRecvProc

/-- What the entry of every overflow invocation leaves (R131, R152). -/
def Sys2Proof.Spec.entered (s : State) : State :=
  { s with
    gcnt := if s.cfg.guardPresent = true then s.cfg.guardPreload else s.gcnt
    gflag := if s.cfg.guardPresent = true then false else s.gflag }

/-- The entry action of WaitStart (R154, R204). -/
def Sys2Proof.Spec.idleBus (t : State) : State :=
  { t with
    engState := .waitStart, activeValid := false,
    sdaOe := false, armed := false, stopFlag := false, ovfFlag := false }

/-- Armed for 8 bits with SDA released, in state `e` (R164, R167). -/
def Sys2Proof.Spec.listening (e : EngState) (t : State) : State :=
  { t with engState := e, sdaOe := false, armed := true, cntLeft := 8, ovfFlag := false }

/-- The slave's ACK on the line, armed for its one bit (R156, R165). -/
def Sys2Proof.Spec.acking (t : State) : State :=
  { t with usr := 0x00, sdaOe := true, armed := true, cntLeft := 1, ovfFlag := false }

/-- The byte `v` loaded, armed for its eight bits (R159). -/
def Sys2Proof.Spec.sending (v : Byte) (t : State) : State :=
  { t with
    first := false, engState := .send, usr := v, sdaOe := true,
    armed := true, cntLeft := 8, ovfFlag := false }

/-- An addressed slave with device `d` (R22, R29). -/
abbrev Sys2Proof.Spec.ActiveDevice (s : State) (d : Dev) : Prop :=
  s.activeValid = true ∧ s.slotDev? s.activeIdx = some d

open Sys2Proof.Spec

/-! ## Encoding -/

/-- Decode and encode agree on every well-formed operation (R84 to R93). -/
def Obligations.DecodeOfEncodeIsTheOperation : Prop :=
  ∀ i : Instr, i.wellFormed = true → decode (encode i) i.devOperand = some i

/-- Each legal word has one meaning, which encodes back to it, operands included (R84 to R93). -/
def Obligations.EncodeOfDecodeIsTheWord : Prop :=
  ∀ (w : Op16) (d : Dev) (i : Instr), decode w d = some i → encode i = w ∧ i.wellFormed = true

/-- A word is Invalid exactly when R97 reserves it (R96, R97). -/
def Obligations.ReservedWordsAreExactlyTheInvalidOnes : Prop :=
  ∀ (w : Op16) (d : Dev), decode w d = none ↔ ReservedWord w

/-- Words written out from R85 to R93, and R82's address byte: a sanity statement. -/
def Obligations.WordsOfTheSpecDecodeAsWritten : Prop :=
  decode 0x0E00 ⟨0⟩ = some (.ovfStop .recv) ∧ decode 0x0100 ⟨0⟩ = some .ovfAddr ∧
  decode 0x1000 ⟨0⟩ = some .startH ∧ decode 0x2500 ⟨0⟩ = some .gresumePrepRecv ∧
  decode 0x3001 ⟨0⟩ = some (.bit true) ∧ decode 0x6000 ⟨0⟩ = some .tick ∧
  decode 0x9050 ⟨7⟩ = some (.register 0x50 ⟨7⟩) ∧ decode 0xA021 ⟨0⟩ = some (.lookup 0x21) ∧
  decode 0xB001 ⟨0⟩ = some (.txcall true) ∧ decode 0xC1FF ⟨0⟩ = some (.rxcall true 0xFF) ∧
  decode 0xD1A5 ⟨0⟩ = some (.lpDrive 0xA5) ∧ decode 0xD208 ⟨0⟩ = some .lpArm8 ∧
  decode 0xE100 ⟨0⟩ = some .gWait ∧ addrOf 0xA1 = 0x50 ∧ rwOf 0xA1 = true

/-! ## A step -/

/-- A step of the schedule runs the decoded operation, on the state without that offer: an agent's word, an
API-level register call, or a micro-operation's own word. A micro-operation that an agent offers is no
step (R200). The schedule queue and the micro-operation's own offer are the model's conventions: log
entries 2, 6 and 13. -/
def Obligations.StepRunsTheScheduledOperation : Prop :=
  ∀ (s : State) (w : Op16) (d : Dev) (a : Nat) (rest : List Offer) (i : Instr), s.fault = none →
    (s.schedule = .word w d :: rest → decode w d = some i → agentOf i ≠ .microOperation →
      step s = exec i { s with schedule := rest }) ∧
    (s.schedule = .registerCall a d :: rest →
      step s = exec (.register a d) { s with schedule := rest }) ∧
    (s.schedule = .micro w :: rest → decode w ⟨0⟩ = some i → agentOf i = .microOperation →
      step s = exec i { s with schedule := rest }) ∧
    (s.schedule = .word w d :: rest → decode w d = some i → agentOf i = .microOperation →
      s.cfg.Wf → step s = .refused (.notEnabled w))

/-- With no step chosen, the step is the engine's while one is enabled, else the program's next
operation: the eager schedule of R102. With neither, there is no step. A micro-operation that a program
lists is no step (R200). The program queue, and the answers where there is no step, are the model's
conventions: log entries 2, 13 and 17. -/
def Obligations.StepFollowsTheEagerSchedule : Prop :=
  ∀ s : State, s.fault = none → s.schedule = [] →
    (∀ (w : Op16) (i : Instr), s.engineLabel = some w → decode w ⟨0⟩ = some i →
      step s = exec i s) ∧
    (∀ (w : Op16) (d : Dev) (rest : List Offer) (i : Instr), s.engineLabel = none →
      s.program = .word w d :: rest → decode w d = some i →
      (agentOf i ≠ .microOperation → step s = exec i { s with program := rest }) ∧
      (agentOf i = .microOperation → s.cfg.Wf → step s = .refused (.notEnabled w))) ∧
    (∀ (a : Nat) (d : Dev) (rest : List Offer), s.engineLabel = none →
      s.program = .registerCall a d :: rest →
      step s = exec (.register a d) { s with program := rest }) ∧
    (s.engineLabel = none → s.program = [] →
      step s = if s.hph = .stalled then .fault .stalled else .refused .noStep)

/-- Each reserved word of R97 is refused with RF_INVALID_OP when it is offered, and nothing else changes
but that the offer is gone (R96, R97; R261 no. 5; R263 no. 1). The schedule queue, and that a refused
offer is removed from it, are the model's choice: log entry 2. -/
def Obligations.ReservedWordsAreRefused : Prop :=
  ∀ (s : State) (w : Op16) (d : Dev) (rest : List Offer),
    s.Ready → s.schedule = .word w d :: rest → ReservedWord w →
    step s = .next
      { s with schedule := rest, refused := s.refused.or (some (.invalidOp, some w)) }

/-- The label of the engine step that is enabled, and the operation it names: a pending start first
(R103, R270). -/
def Obligations.EngineLabelNamesTheEnabledStep : Prop :=
  ∀ (s : State) (d : Dev),
    (s.StartEnabled → s.engineLabel = some 0x1000 ∧ decode 0x1000 d = some .startH) ∧
    (s.OvfEnabled → ∃ w, s.engineLabel = some w ∧
      w = ((if s.stopFlag = true then (1 : Op16) else 0) <<< 11) |||
        ((stateCode s.engState).setWidth 16 <<< 8) ∧
      decode w d = some (overflowOf s.stopFlag s.engState)) ∧
    (s.ResumeEnabled → ∃ w, s.engineLabel = some w ∧
      w = (0x2000 : Op16) ||| ((stateCode s.engState).setWidth 16 <<< 8) ∧
      (s.engState = .prepSend → decode w d = some .gresumePrepSend) ∧
      (s.engState = .prepRecv → decode w d = some .gresumePrepRecv) ∧
      (s.engState ≠ .prepSend → s.engState ≠ .prepRecv → decode w d = none))

/-- Of all the engine's operations, exactly the one whose word is the enabled label has a step (R103,
R134, R151, R152, R270). -/
def Obligations.EngineOperationRunsExactlyUnderItsLabel : Prop :=
  ∀ (s : State) (i : Instr), s.Ready → agentOf i = .engine →
    (exec i s = .refused (.notEnabled (encode i)) ↔ s.engineLabel ≠ some (encode i))

/-- The step after `withFetchWord` is the operation of that table word, on a state in which its label is
selected. Model's convention, log entry 2. -/
def Obligations.FetchWordRunsThatOperation : Prop :=
  ∀ (s : State) (w : Nat) (i : Instr), s.fault = none → w < 65536 →
    decodeTableWord 16 w = some i →
    step (s.withFetchWord 16 w) = exec i { selectFor i s with schedule := s.schedule } ∧
    (agentOf i = .engine → s.cfg.Wf →
      exec i { selectFor i s with schedule := s.schedule } ≠ .refused (.notEnabled (encode i)))

/-- A faulted state has no further step of any agent (R261 no. 4). -/
def Obligations.FaultedStateHasNoStep : Prop :=
  ∀ (s : State) (c : FaultCode) (l : Op16), s.fault = some (c, l) →
    step s = .fault (.recorded c) ∧ ∀ i : Instr, exec i s = .fault (.recorded c)

/-- A configuration that breaks R9 is refused before any step: RF_BAD_CONFIG, with no word (R10, R263
no. 4). That this comes before an operation's enabling condition, so also for an operation that is not
enabled, and that the guard's constraints count without a guard too, is the model's choice: log entry
11. -/
def Obligations.BadConfigurationIsRefusedBeforeAnyStep : Prop :=
  ∀ (s : State) (i : Instr), s.fault = none → ¬ s.cfg.Wf →
    exec i s = .next { s with refused := s.refused.or (some (.badConfig, none)) }

/-! ## The counter-overflow handler -/

/-- OVF.STOP (R153). -/
def Obligations.OverflowAfterStopEntersWaitStart : Prop :=
  ∀ s : State, s.Ready → s.OvfEnabled → s.stopFlag = true →
    encode (.ovfStop s.engState) = (0x0800 : Op16) ||| ((stateCode s.engState).setWidth 16 <<< 8) ∧
    exec (.ovfStop s.engState) s = .next (idleBus (entered s))

/-- OVF.WAITSTART raises FT_OVF_IN_WAITSTART; every other field is as before the step (R155, R261). Where
the invariant holds it is never enabled (R34, R49 INV1, R98): this clause needs, beside INV1, that an
overflow is pending only while ARMED = 1, which log entry 9 deduces. -/
def Obligations.OverflowInWaitStartFaults : Prop :=
  ∀ s : State, s.Ready → s.OvfEnabled → s.stopFlag = false → s.engState = .waitStart →
    encode .ovfWaitStart = 0x0000 ∧
    exec .ovfWaitStart s = .next { s with fault := some (.ovfInWaitStart, 0x0000) } ∧
    ¬ s.Inv

/-- OVF.ADDR (R156). -/
def Obligations.AddressByteIsDecodedAgainstTheRegistry : Prop :=
  ∀ s : State, s.Ready → s.OvfEnabled → s.stopFlag = false → s.engState = .addr →
    encode .ovfAddr = 0x0100 ∧
    (s.lookup (s.usr.extractLsb' 1 7) = none →
      exec .ovfAddr s = .next (idleBus (entered s))) ∧
    (∀ r, s.lookup (s.usr.extractLsb' 1 7) = some r →
      exec .ovfAddr s = .next (acking
        { entered s with
          activeValid := true, activeIdx := r, first := true,
          engState := if s.usr.getLsbD 0 = true then .prepSend else .prepRecv }))

/-- OVF.PREPSEND: the guard hold; without it, the answer is loaded, or the call stalls, or there is no
active slave to call (R157, R158, R159). -/
def Obligations.PrepSendFetchesTheByteOrWaits : Prop :=
  ∀ (s : State) (d : Dev), s.Ready → s.OvfEnabled → s.stopFlag = false → s.engState = .prepSend →
    encode .ovfPrepSend = 0x0200 ∧
    (s.cfg.guardPresent = true →
      exec .ovfPrepSend s = .next { entered s with hph := .gwait }) ∧
    (s.cfg.guardPresent = false → s.activeValid = false →
      exec .ovfPrepSend s = .next { s with fault := some (.noActive, 0x0200) }) ∧
    (s.cfg.guardPresent = false → ActiveDevice s d →
      (∀ v m t, s.drawAnswer d = (.reply v m, t) →
        exec .ovfPrepSend s =
          .next (sending v { t with calls := t.calls ++ [.tx s.activeIdx s.first v] })) ∧
      (∀ t, s.drawAnswer d = (.stall, t) →
        exec .ovfPrepSend s = .next { t with hph := .stalled }))

/-- OVF.SEND (R160). -/
def Obligations.SendReleasesDataLineForTheMastersAck : Prop :=
  ∀ s : State, s.Ready → s.OvfEnabled → s.stopFlag = false → s.engState = .send →
    encode .ovfSend = 0x0300 ∧
    exec .ovfSend s = .next
      { entered s with
        engState := .recvAck, sdaOe := false, armed := true, cntLeft := 1, ovfFlag := false }

/-- OVF.RECVACK: a NACK ends the transaction; an ACK requests the next byte in the same invocation,
with no new decode (R161). -/
def Obligations.MastersAckContinuesAndNackEnds : Prop :=
  ∀ (s : State) (d : Dev), s.Ready → s.OvfEnabled → s.stopFlag = false → s.engState = .recvAck →
    encode .ovfRecvAck = 0x0400 ∧
    (s.usr.getLsbD 0 = true → exec .ovfRecvAck s = .next (idleBus (entered s))) ∧
    (s.usr.getLsbD 0 = false → s.cfg.guardPresent = true →
      exec .ovfRecvAck s = .next { entered s with engState := .prepSend, hph := .gwait }) ∧
    (s.usr.getLsbD 0 = false → s.cfg.guardPresent = false → s.activeValid = false →
      exec .ovfRecvAck s = .next { s with fault := some (.noActive, 0x0400) }) ∧
    (s.usr.getLsbD 0 = false → s.cfg.guardPresent = false → ActiveDevice s d →
      (∀ v m t, s.drawAnswer d = (.reply v m, t) →
        exec .ovfRecvAck s =
          .next (sending v { t with calls := t.calls ++ [.tx s.activeIdx s.first v] })) ∧
      (∀ t, s.drawAnswer d = (.stall, t) →
        exec .ovfRecvAck s = .next { t with engState := .prepSend, hph := .stalled }))

/-- OVF.PREPRECV (R162, R163, R164). -/
def Obligations.PrepRecvArmsForTheNextByteOrWaits : Prop :=
  ∀ s : State, s.Ready → s.OvfEnabled → s.stopFlag = false → s.engState = .prepRecv →
    encode .ovfPrepRecv = 0x0500 ∧
    (s.cfg.guardPresent = true →
      exec .ovfPrepRecv s = .next { entered s with hph := .gwait }) ∧
    (s.cfg.guardPresent = false → exec .ovfPrepRecv s = .next (listening .recv s))

/-- OVF.RECV: the byte is stashed and ACKed, and no device is called (R165). -/
def Obligations.ReceivedByteIsStashedAndAcked : Prop :=
  ∀ s : State, s.Ready → s.OvfEnabled → s.stopFlag = false → s.engState = .recv →
    encode .ovfRecv = 0x0600 ∧
    exec .ovfRecv s = .next (acking { entered s with rxbuf := s.usr, engState := .recvProc })

/-- OVF.RECVPROC: one `receive` call; on continue arm for another byte, on stop decode a new address,
with no start (R166). -/
def Obligations.StashedByteGoesToTheActiveDevice : Prop :=
  ∀ (s : State) (d : Dev), s.Ready → s.OvfEnabled → s.stopFlag = false → s.engState = .recvProc →
    encode .ovfRecvProc = 0x0700 ∧
    (s.activeValid = false →
      exec .ovfRecvProc s = .next { s with fault := some (.noActive, 0x0700) }) ∧
    (ActiveDevice s d → ∀ v t, (entered s).drawAnswer d = (.reply v true, t) →
      s.cfg.guardPresent = true → exec .ovfRecvProc s = .next
        { t with
          calls := t.calls ++ [.rx s.activeIdx s.first s.rxbuf true], first := false,
          engState := .prepRecv, hph := .gwait }) ∧
    (ActiveDevice s d → ∀ v t, (entered s).drawAnswer d = (.reply v true, t) →
      s.cfg.guardPresent = false → exec .ovfRecvProc s = .next (listening .recv
        { t with
          calls := t.calls ++ [.rx s.activeIdx s.first s.rxbuf true], first := false })) ∧
    (ActiveDevice s d → ∀ v t, (entered s).drawAnswer d = (.reply v false, t) →
      exec .ovfRecvProc s = .next (listening .addr
        { t with
          calls := t.calls ++ [.rx s.activeIdx s.first s.rxbuf false], first := false })) ∧
    (ActiveDevice s d → ∀ t, (entered s).drawAnswer d = (.stall, t) →
      exec .ovfRecvProc s = .next { t with hph := .stalled })

/-- A device call with no active slave, or with a slot that is not filled, raises FT_NO_ACTIVE and leaves
every other field (R262 no. 2). That an unfilled slot is this fault is the model's reading of INV3, and
that a micro-operation's own word makes the call is its convention: log entries 8 and 6. -/
def Obligations.CallOfNoFilledSlotFaults : Prop :=
  ∀ (s : State) (f : Bool) (b : Byte), s.Ready →
    (s.activeValid = false ∨ s.slotDev? s.activeIdx = none) →
    exec (.txcall f) s = .next { s with fault := some (.noActive, encode (.txcall f)) } ∧
    exec (.rxcall f b) s = .next { s with fault := some (.noActive, encode (.rxcall f b)) } ∧
    (s.OvfEnabled → s.stopFlag = false → s.engState = .recvProc →
      exec .ovfRecvProc s = .next { s with fault := some (.noActive, 0x0700) }) ∧
    (s.OvfEnabled → s.stopFlag = false → s.engState = .prepSend → s.cfg.guardPresent = false →
      exec .ovfPrepSend s = .next { s with fault := some (.noActive, 0x0200) }) ∧
    (s.OvfEnabled → s.stopFlag = false → s.engState = .recvAck → s.usr.getLsbD 0 = false →
      s.cfg.guardPresent = false →
      exec .ovfRecvAck s = .next { s with fault := some (.noActive, 0x0400) }) ∧
    (s.ResumeEnabled → s.engState = .prepSend →
      exec .gresumePrepSend s = .next { s with fault := some (.noActive, 0x2200) })

/-! ## Start handler and guard resume -/

/-- START.H, from every state (R151). -/
def Obligations.StartHandlerRearmsForAnAddress : Prop :=
  ∀ s : State, s.Ready → s.StartEnabled →
    encode .startH = 0x1000 ∧
    exec .startH s =
      .next { listening .addr s with stopFlag := false, startFlag := false }

/-- GRESUME: the invocation goes on where it held, under the clock hold of INV5 (R134). With ENG_STATE
outside the two states a handler holds in, the eager step refuses its reserved label: that
RF_INVALID_OP is what is recorded, and HPH kept, is deduced in log entry 14, and the empty schedule is
log entry 2's. -/
def Obligations.ResumeContinuesTheHeldInvocation : Prop :=
  ∀ (s : State) (d : Dev), s.Ready → s.ResumeEnabled → s.ovfFlag = true →
    encode .gresumePrepSend = 0x2200 ∧ encode .gresumePrepRecv = 0x2500 ∧
    (s.engState = .prepRecv →
      exec .gresumePrepRecv s = .next { listening .recv s with hph := .idle }) ∧
    (s.engState = .prepSend → s.activeValid = false →
      exec .gresumePrepSend s = .next { s with fault := some (.noActive, 0x2200) }) ∧
    (s.engState = .prepSend → ActiveDevice s d →
      (∀ v m t, s.drawAnswer d = (.reply v m, t) →
        exec .gresumePrepSend s = .next (sending v
          { t with hph := .idle, calls := t.calls ++ [.tx s.activeIdx s.first v] })) ∧
      (∀ t, s.drawAnswer d = (.stall, t) →
        exec .gresumePrepSend s = .next { t with hph := .stalled })) ∧
    (s.engState ≠ .prepSend → s.engState ≠ .prepRecv → s.schedule = [] →
      step s = .next
        { s with
          refused := s.refused.or
            (some (.invalidOp, some ((0x2000 : Op16) ||| ((stateCode s.engState).setWidth 16 <<< 8)))) })

/-! ## Bus events -/

/-- BIT m (R220). -/
def Obligations.BusBitSamplesAndShifts : Prop :=
  ∀ (s : State) (m : Bool), s.Ready →
    let drive := if s.engLive = true ∧ s.sdaOe = true then s.usr.getLsbD 7 else true
    let d := m && drive
    let tr := s.trace ++ [.bit m drive d s.armed]
    encode (.bit m) = (if m = true then 0x3001 else 0x3000) ∧
    (s.sclHeld = true → exec (.bit m) s = .refused (.notEnabled (encode (.bit m)))) ∧
    (s.sclHeld = false → s.engLive = true → s.armed = true → s.cntLeft ≠ 0 →
      exec (.bit m) s = .next
        { s with
          trace := tr
          usr := (s.usr.extractLsb' 0 7) ++ (if d = true then (1#1) else (0#1))
          cntLeft := s.cntLeft - 1
          ovfFlag := decide (s.cntLeft = 1) }) ∧
    (s.sclHeld = false → ¬ (s.engLive = true ∧ s.armed = true) →
      exec (.bit m) s = .next { s with trace := tr }) ∧
    (s.sclHeld = false → s.engLive = true → s.armed = true → s.cntLeft = 0 →
      exec (.bit m) s = .next { s with fault := some (.badArm, encode (.bit m)) })

/-- BSTART (R221). -/
def Obligations.StartConditionSetsStartFlag : Prop :=
  ∀ s : State, s.Ready →
    ((s.ovfFlag = false ∨ s.engLive = false) ∧ s.sOut = true →
      exec .bstart s = .next
        { s with trace := s.trace ++ [.start], startFlag := s.startFlag || s.engLive }) ∧
    (¬ ((s.ovfFlag = false ∨ s.engLive = false) ∧ s.sOut = true) →
      exec .bstart s = .refused (.notEnabled 0x4000))

/-- BSTOP (R222). -/
def Obligations.StopConditionSetsStopFlag : Prop :=
  ∀ s : State, s.Ready →
    ((s.ovfFlag = false ∨ s.engLive = false) ∧ s.sOut = true →
      exec .bstop s = .next
        { s with trace := s.trace ++ [.stop], stopFlag := s.stopFlag || s.engLive }) ∧
    (¬ ((s.ovfFlag = false ∨ s.engLive = false) ∧ s.sOut = true) →
      exec .bstop s = .refused (.notEnabled 0x5000))

/-- Before INIT the slave releases SDA, and bus events change no field but TRACE (R223). -/
def Obligations.BusTrafficBeforeInitChangesOnlyTheTrace : Prop :=
  ∀ (s : State) (m : Bool), s.Ready → s.engLive = false →
    exec (.bit m) s = .next { s with trace := s.trace ++ [.bit m true m s.armed] } ∧
    exec .bstart s = .next { s with trace := s.trace ++ [.start] } ∧
    exec .bstop s = .next { s with trace := s.trace ++ [.stop] } ∧
    s.engineLabel = none

/-- A byte the master sends with SDA released by the slave is shifted into USR, MSB first, and its
eighth bit overflows (R63, R220). -/
def Obligations.EightBitsShiftTheMastersByteIn : Prop :=
  ∀ (s : State) (b : Byte), s.Ready → s.engLive = true → s.armed = true → s.cntLeft = 8 →
    s.ovfFlag = false → s.startFlag = false → s.sdaOe = false →
    execList ((wireBits b).map .bit) s = .next
      { s with
        usr := b, cntLeft := 0, ovfFlag := true,
        trace := s.trace ++ (wireBits b).map fun m => .bit m true m true }

/-- A byte the slave drives reaches the master bit by bit, MSB first, and USR is back to it (R63,
R220). -/
def Obligations.EightBitsShiftTheSlavesByteOut : Prop :=
  ∀ s : State, s.Ready → s.engLive = true → s.armed = true → s.cntLeft = 8 →
    s.ovfFlag = false → s.startFlag = false → s.sdaOe = true →
    execList (List.replicate 8 (.bit true)) s = .next
      { s with
        cntLeft := 0, ovfFlag := true,
        trace := s.trace ++ (wireBits s.usr).map fun x => .bit true x x true }

/-- An address phase: an address no slot holds is NACKed, no device is called and the engine is back in
WaitStart; a registered one gets one ACK, on the ninth bit, and no device is called (R156, R168). -/
def Obligations.AddressPhaseAcksExactlyRegisteredAddresses : Prop :=
  ∀ (s : State) (b : Byte), s.Ready → s.engLive = true → s.hph = .idle → s.engState = .addr →
    s.armed = true → s.cntLeft = 8 → s.ovfFlag = false → s.startFlag = false →
    s.stopFlag = false → s.sdaOe = false →
    ∃ t, execList ((wireBits b).map .bit ++ [.ovfAddr, .bit true]) s = .next t ∧
      t.calls = s.calls ∧ t.registry = s.registry ∧ t.rxbuf = s.rxbuf ∧ t.answers = s.answers ∧
      (s.lookup (addrOf b) = none →
        t.engState = .waitStart ∧ t.activeValid = false ∧ t.armed = false ∧ t.ovfFlag = false ∧
        t.trace = s.trace ++ (wireBits b).map (fun m => .bit m true m true) ++
          [.bit true true true false]) ∧
      (∀ r, s.lookup (addrOf b) = some r →
        t.engState = (if rwOf b = true then .prepSend else .prepRecv) ∧
        t.activeValid = true ∧ t.activeIdx = r ∧ t.first = true ∧ t.ovfFlag = true ∧
        t.trace = s.trace ++ (wireBits b).map (fun m => .bit m true m true) ++
          [.bit true false false true])

/-- What the master sees of a bit depends on nothing but the line drive of the slave, and the hold: two
states that agree on those fields show the same bit and are still alike after it (R48). -/
def Obligations.MasterSeesOnlyTheLines : Prop :=
  ∀ (s t : State) (m : Bool) (s' t' : State),
    s.engLive = t.engLive → s.sdaOe = t.sdaOe → s.usr = t.usr → s.armed = t.armed →
    s.cntLeft = t.cntLeft → s.ovfFlag = t.ovfFlag → s.startFlag = t.startFlag →
    s.Ready → t.Ready →
    (exec (.bit m) s = .refused (.notEnabled (encode (.bit m))) ↔
      exec (.bit m) t = .refused (.notEnabled (encode (.bit m)))) ∧
    (exec (.bit m) s = .next s' → exec (.bit m) t = .next t' → s'.fault = none →
      ∃ e, s'.trace = s.trace ++ [e] ∧ t'.trace = t.trace ++ [e] ∧
        s'.usr = t'.usr ∧ s'.cntLeft = t'.cntLeft ∧ s'.ovfFlag = t'.ovfFlag ∧
        s'.sclHeld = t'.sclHeld ∧ s'.sOut = t'.sOut ∧ t'.fault = none)

/-! ## The guard -/

/-- TICK (R132, R135). -/
def Obligations.TickCountsAndLatchesTheSafeWindow : Prop :=
  ∀ s : State, s.Ready →
    encode .tick = 0x6000 ∧
    (s.cfg.guardPresent = true →
      exec .tick s = .next
        { s with
          gcnt := (s.gcnt + 1) % 2 ^ s.cfg.guardCntW
          gflag := s.gflag || decide ((s.gcnt + 1) % 2 ^ s.cfg.guardCntW = s.cfg.guardTop) }) ∧
    (s.cfg.guardPresent = false → exec .tick s = .next s)

/-- G.PREP and G.WAIT by their own words (R131, R133, R135). -/
def Obligations.GuardPrepareAndWait : Prop :=
  ∀ s : State, s.Ready →
    (s.cfg.guardPresent = true →
      exec .gPrep s = .next { s with gcnt := s.cfg.guardPreload, gflag := false }) ∧
    (s.cfg.guardPresent = false → exec .gPrep s = .next s) ∧
    (s.cfg.guardPresent = false ∨ s.gflag = true → exec .gWait s = .next s) ∧
    (s.cfg.guardPresent = true → s.gflag = false →
      exec .gWait s = .next { s with hph := .gwait })

/-- After G.PREP, GFLAG is set from the tick number P_GUARD_TICKS on, and not before (R132, R136). -/
def Obligations.GuardWaitEndsAfterExactlyGuardTicks : Prop :=
  ∀ (s : State) (n : Nat), s.cfg.Wf → s.cfg.guardPresent = true →
    ((guardTicks n (entered s)).gflag = true ↔ s.cfg.guardTicks ≤ n) ∧
    (n ≤ s.cfg.guardTicks → (guardTicks n (entered s)).gcnt = s.cfg.guardPreload + n)

/-! ## Startup code -/

/-- INIT (R240): what it sets, what it keeps, and the five fields it leaves to any value, within their
widths; a second INIT is refused and changes nothing else. The count of drawn free values is the
model's own (log entry 5). -/
def Obligations.InitResetsTheEngineAndKeepsTheRegistry : Prop :=
  ∀ s : State, s.Ready →
    encode .init = 0x8000 ∧
    (s.engLive = false →
      ∃ (u : Byte) (c : BitVec 4) (a g : Nat) (f : Bool),
        c ≤ 8 ∧ a < 2 ^ s.cfg.slotW ∧ g < 2 ^ s.cfg.guardCntW ∧
        exec .init s = .next
          { s with
            engState := .waitStart, activeValid := false, rxbuf := 0x00, first := false,
            hph := .idle, sdaOe := false, armed := false, stopFlag := false, startFlag := false,
            ovfFlag := false, engLive := true,
            usr := u, cntLeft := c, activeIdx := a, gcnt := g, gflag := f,
            draws := s.draws + 1 }) ∧
    (s.engLive = true →
      exec .init s = .next
        { s with refused := s.refused.or (some (.initTwice, some 0x8000)) })

/-- REGISTER a, D (R110, R111, R114): before INIT a slot is appended and its duplicate recorded, and a full
table drops it; after INIT it is refused; and so is `register` with an address of eight bits or more
(R243). That the latter is RF_ADDR_WIDTH also after INIT is the model's choice: log entry 15. The operand D
is of the configuration's type Dev (R9); that there is no step for another identifier is log entry
3's. -/
def Obligations.RegisterAppendsDropsOrIsRefused : Prop :=
  ∀ (s : State) (a : Nat) (d : Dev), s.Ready →
    (s.cfg.hasDev d = false →
      exec (.register a d) s = .refused (.notEnabled (encode (.register a d)))) ∧
    (s.cfg.hasDev d = true → a < 128 → s.engLive = false → s.registry.length ≠ s.cfg.regCapacity →
      exec (.register a d) s = .next
        { s with
          registry := s.registry ++ [⟨BitVec.ofNat 7 a, d⟩]
          regDup := s.regDup || decide (∃ r ∈ s.registry, r.addr.toNat = a) }) ∧
    (s.cfg.hasDev d = true → a < 128 → s.engLive = false → s.registry.length = s.cfg.regCapacity →
      exec (.register a d) s = .next { s with regOvf := true }) ∧
    (s.cfg.hasDev d = true → a < 128 → s.engLive = true →
      exec (.register a d) s = .next
        { s with
          refused := s.refused.or
            (some (.registerAfterInit, some (0x9000 ||| BitVec.ofNat 16 a))) }) ∧
    (s.cfg.hasDev d = true → 128 ≤ a →
      exec (.register a d) s = .next { s with refused := s.refused.or (some (.addrWidth, none)) })

/-- LOOKUP a returns the first slot, in registration order, that holds the address, or none; it writes
no state of the block (R112). The result field is the model's own (log entry 6). -/
def Obligations.LookupReturnsTheFirstExactMatch : Prop :=
  ∀ (s : State) (a : BusAddr), s.Ready →
    ∃ r, exec (.lookup a) s = .next { s with result := .slot r } ∧ r = s.lookup a ∧
      (∀ i, r = some i ↔
        (∃ x, s.registry[i]? = some x ∧ x.addr = a) ∧
        ∀ (j : Nat) (y : Slot), j < i → s.registry[j]? = some y → y.addr ≠ a) ∧
      (r = none ↔ ∀ x ∈ s.registry, x.addr ≠ a)

/-- While the engine runs, it runs on, and the registry is constant (R31). -/
def Obligations.RegistryIsConstantAfterInit : Prop :=
  ∀ s t : State, s.engLive = true → step s = .next t →
    t.engLive = true ∧ t.registry = s.registry ∧ t.regOvf = s.regOvf ∧ t.regDup = s.regDup

/-! ## Capability calls -/

/-- TXCALL and RXCALL by their own words: one CALLS entry for a call that returns; HPH = STALLED and no
entry for one that never does (R241, R242, R244). The result field is the model's own (log entry 6). -/
def Obligations.CapabilityCallsRecordOrStall : Prop :=
  ∀ (s : State) (d : Dev) (f : Bool) (b : Byte), s.Ready → ActiveDevice s d →
    (∀ v m t, s.drawAnswer d = (.reply v m, t) →
      exec (.txcall f) s = .next
        { t with calls := t.calls ++ [.tx s.activeIdx f v], result := .byte v } ∧
      exec (.rxcall f b) s = .next
        { t with calls := t.calls ++ [.rx s.activeIdx f b m], result := .more m }) ∧
    (∀ t, s.drawAnswer d = (.stall, t) →
      exec (.txcall f) s = .next { t with hph := .stalled } ∧
      exec (.rxcall f b) s = .next { t with hph := .stalled })

/-- A device's answers are given in call order, whichever slot calls it, and a draw for one device
leaves the sequence of every other (R248). Where no answer is written in the state, the answer is any
(log entry 4). -/
def Obligations.DeviceAnswersComeInCallOrder : Prop :=
  ∀ (s : State) (d : Dev),
    (∀ a rest, (s.answers.filter fun p => decide (p.1 = d)) = (d, a) :: rest →
      ∃ l, s.drawAnswer d = (a, { s with answers := l }) ∧
        (l.filter fun p => decide (p.1 = d)) = rest ∧
        ∀ e, e ≠ d → (l.filter fun p => decide (p.1 = e)) =
          s.answers.filter fun p => decide (p.1 = e)) ∧
    ((s.answers.filter fun p => decide (p.1 = d)) = [] →
      ∃ a, s.drawAnswer d = (a, { s with draws := s.draws + 1 }))

/-- One step makes at most one capability call, to the active slot and with FIRST, which it clears; and
only a decode of a registered address sets FIRST again: so in an addressed phase the first call has
`f = 1` and every later one `f = 0` (R170, R172). -/
def Obligations.CallsGoToTheActiveSlotAndClearFirst : Prop :=
  ∀ (s t : State) (i : Instr), agentOf i ≠ .microOperation → exec i s = .next t →
    (t.calls = s.calls ∨
      (t.first = false ∧
        ((∃ v, t.calls = s.calls ++ [.tx s.activeIdx s.first v]) ∨
         (∃ c, t.calls = s.calls ++ [.rx s.activeIdx s.first s.rxbuf c])))) ∧
    (s.first = false → t.first = true → i = .ovfAddr ∧ t.activeValid = true ∧ t.calls = s.calls)

/-- A stalled handler stays stalled: of the engine's, the master's and the counter's operations only
TICK has a step (R244). -/
def Obligations.StalledEngineOnlyTicks : Prop :=
  ∀ (s : State) (i : Instr), s.Ready → s.engLive = true → s.hph = .stalled → s.ovfFlag = true →
    (agentOf i = .engine ∨ agentOf i = .master →
      exec i s = .refused (.notEnabled (encode i))) ∧
    (∃ t, exec .tick s = .next t ∧ t.hph = .stalled ∧ t.ovfFlag = true)

/-! ## Line primitives -/

/-- LP.RELSDA, LP.DRIVE and LP.ARMSTART while SCL is held (R201, R202, R204). -/
def Obligations.LinePrimitivesUnderTheClockHold : Prop :=
  ∀ (s : State) (b : Byte), s.Ready → s.sclHeld = true →
    exec .lpRelSda s = .next { s with sdaOe := false } ∧
    exec (.lpDrive b) s = .next { s with usr := b, sdaOe := true } ∧
    exec .lpArmStart s = .next
      { s with sdaOe := false, armed := false, stopFlag := false, ovfFlag := false }

/-- An SDA change while SCL is not held raises FT_SPURIOUS_LINE and changes nothing else (R210). -/
def Obligations.DataLineChangeWithoutTheHoldFaults : Prop :=
  ∀ (s : State) (b : Byte), s.Ready → s.sclHeld = false →
    exec .lpRelSda s = .next { s with fault := some (.spuriousLine, 0xD000) } ∧
    exec (.lpDrive b) s =
      .next { s with fault := some (.spuriousLine, 0xD100 ||| b.setWidth 16) } ∧
    exec .lpArmStart s = .next { s with fault := some (.spuriousLine, 0xD300) }

/-- LP.ARM 1 and LP.ARM 8 preload the counter and release the overflow hold; LP.ACKSTART and LP.CLRSTOP
clear their flags (R203, R205, R206). Any other count is FT_BAD_ARM. -/
def Obligations.ArmAndFlagPrimitives : Prop :=
  ∀ (s : State) (n : Nat), s.Ready →
    exec .lpArm1 s = .next { s with armed := true, cntLeft := 1, ovfFlag := false } ∧
    exec .lpArm8 s = .next { s with armed := true, cntLeft := 8, ovfFlag := false } ∧
    (n ≠ 1 → n ≠ 8 → lpArm n s = .fault .badArm) ∧
    exec .lpAckStart s = .next { s with startFlag := false } ∧
    exec .lpClrStop s = .next { s with stopFlag := false }

/-! ## The whole machine -/

/-- No agent but the engine and the startup code writes the engine record (R20, R25). -/
def Obligations.OnlyHandlersAndStartupWriteTheEngineRecord : Prop :=
  ∀ (s t : State) (i : Instr), agentOf i = .master ∨ agentOf i = .guardCounter →
    exec i s = .next t →
    t.engState = s.engState ∧ t.activeValid = s.activeValid ∧ t.activeIdx = s.activeIdx ∧
    t.rxbuf = s.rxbuf ∧ t.first = s.first ∧ t.hph = s.hph ∧ t.calls = s.calls ∧
    t.registry = s.registry ∧ t.engLive = s.engLive

/-- Of all agents' steps, only START.H leaves WaitStart (R304). -/
def Obligations.OnlyTheStartHandlerLeavesWaitStart : Prop :=
  ∀ (s t : State) (i : Instr), agentOf i ≠ .microOperation → s.engState = .waitStart →
    exec i s = .next t → t.engState ≠ .waitStart → i = .startH ∧ t.engState = .addr

/-- TRACE and CALLS only grow, the first refusal is kept, REG_OVF and REG_DUP are sticky (R30, R43), and
no step writes the parameters (log entry 1). -/
def Obligations.RecordsGrowAndStick : Prop :=
  ∀ s t : State, step s = .next t →
    s.trace <+: t.trace ∧ s.calls <+: t.calls ∧
    (s.refused ≠ none → t.refused = s.refused) ∧
    (s.regOvf = true → t.regOvf = true) ∧ (s.regDup = true → t.regDup = true) ∧
    t.cfg = s.cfg

/-- A TICK changes no field a handler's enabling reads (R270). -/
def Obligations.TickLeavesHandlersAndLinesAlone : Prop :=
  ∀ s t : State, s.cfg.Wf → exec .tick s = .next t →
    (t.StartEnabled ↔ s.StartEnabled) ∧ (t.OvfEnabled ↔ s.OvfEnabled) ∧
    (s.ResumeEnabled → t.ResumeEnabled) ∧ t.sclHeld = s.sclHeld ∧ t.sOut = s.sOut ∧
    t = { s with gcnt := t.gcnt, gflag := t.gflag }

/-- The block at power-on, whatever its parameters: the values the spec states (R300). The values of
the fields marked "any" are the model's (log entry 7) and are not stated. -/
def Obligations.PowerOnValues : Prop :=
  (∀ p : Config.Params,
    let s := State.powerOn p
    s.cfg = p ∧ s.hph = .idle ∧ s.engLive = false ∧ s.registry = [] ∧ s.regOvf = false ∧
    s.regDup = false ∧ s.trace = [] ∧ s.calls = [] ∧ s.fault = none ∧ s.refused = none) ∧
  ∃ p : Config.Params, p.Wf ∧ State.reset = State.powerOn p

/-- The invariant holds at power-on, under every configuration and for every value within its width (R22,
R33, R41) of the fields that are any there (R50, R300); so it holds of `State.powerOn`, whose values of
those fields log entry 7 names. -/
def Obligations.InvariantHoldsAtPowerOn : Prop :=
  (∀ s : State, s.hph = .idle → s.engLive = false → s.registry = [] → s.fault = none →
    s.schedule = [] → s.program = [] →
    s.activeIdx < 2 ^ s.cfg.slotW → s.cntLeft ≤ 8 → s.gcnt < 2 ^ s.cfg.guardCntW → s.Inv) ∧
  ∀ p : Config.Params, (State.powerOn p).Inv

/-- INV1 to INV6 (R49), the bounds of the fields and the absence of a fault are kept by every step,
whatever the agents choose. The two clauses of `InvAux` are the model's strengthening (log entry 9). -/
def Obligations.InvariantIsKeptByEveryStep : Prop :=
  ∀ s t : State, s.Inv → step s = .next t → t.Inv

/-- No run of the agents raises a fault (R262). -/
def Obligations.NoFaultIsReachable : Prop :=
  ∀ s : State, s.Inv → SafeStep s ∧ ∀ c, step s ≠ .fault (.recorded c)

/-- Under the invariant, an engine step that is enabled completes, with no fault and no refusal, and at
its end SCL is released, but for a guard hold and a stall (R211, R272). -/
def Obligations.EnabledHandlersCompleteAndReleaseTheClock : Prop :=
  ∀ (s : State) (w : Op16), s.Inv → s.cfg.Wf → s.schedule = [] → s.engineLabel = some w →
    ∃ t, step s = .next t ∧ t.fault = none ∧ t.refused = s.refused ∧
      (t.sclHeld = false ↔ t.hph = .idle) ∧ t.startFlag = false ∧ t.trace = s.trace

/-- The fields keep their widths and legal values under every step, of any agent or micro-operation
(R22, R29, R33, R41), and every slot's device stays a reference of the type Dev (R9, R29). -/
def Obligations.FieldWidthsAreKeptByEveryStep : Prop :=
  ∀ s t : State, s.WidthsOk → step s = .next t → t.WidthsOk

/-- The packed views (R44, R45). -/
def Obligations.PackedViewsHoldTheirFields : Prop :=
  ∀ s : State,
    s.engw = s.rxbuf ++ (if s.engLive = true then (1#1) else (0#1)) ++ phaseCode s.hph ++
      (if s.activeValid = true then (1#1) else (0#1)) ++
      (if s.first = true then (1#1) else (0#1)) ++ stateCode s.engState ∧
    s.pstat = (0#3) ++ (if s.startFlag = true then (1#1) else (0#1)) ++
      (if s.ovfFlag = true then (1#1) else (0#1)) ++
      (if s.stopFlag = true then (1#1) else (0#1)) ++
      (if s.armed = true then (1#1) else (0#1)) ++
      (if s.sdaOe = true then (1#1) else (0#1)) ++ (0#4) ++ s.cntLeft

/-- The master's pseudo-instructions and what their words are (R101): a sanity statement. -/
def Obligations.PseudoInstructionsExpandAsListed : Prop :=
  (Pseudo.address 0x50 true).expand.map encode =
    [0x3001, 0x3000, 0x3001, 0x3000, 0x3000, 0x3000, 0x3000, 0x3001, 0x3001] ∧
  (Pseudo.readByte false).expand.map encode = List.replicate 9 0x3001 ∧
  (Pseudo.readByte true).expand.map encode = List.replicate 8 0x3001 ++ [0x3000] ∧
  (Pseudo.writeByte 0x07).expand.map encode =
    [0x3000, 0x3000, 0x3000, 0x3000, 0x3000, 0x3001, 0x3001, 0x3001, 0x3001] ∧
  Pseudo.start.expand = [.bstart] ∧ Pseudo.stop.expand = [.bstop] ∧
  (Pseudo.ticks 2).expand.map encode = [0x6000, 0x6000]

/-- An operation that a program lists is offered as that operation, with every operand it has. A
registration whose address needs eight bits or more is offered as the API-level call, and refused with
RF_ADDR_WIDTH (R110, R243). How it is offered is the model's own: log entry 18. -/
def Obligations.ProgramOffersTheOperationItLists : Prop :=
  (∀ i : Instr, decodeOffer (offerOf i) = some i) ∧
  ∀ (p : Config.Params) (a : Nat) (d : p.DevType) (regs : List (Nat × p.DevType))
    (answers : List (p.DevType × Config.Answer)) (ops : List Instr), p.Wf →
    (128 ≤ a → step (startProgram p ((a, d) :: regs) answers ops) = .next
      { startProgram p regs answers ops with refused := some (.addrWidth, none) }) ∧
    (a < 128 → step (startProgram p ((a, d) :: regs) answers ops) = .next
      { startProgram p regs answers ops with registry := [⟨BitVec.ofNat 7 a, d.val⟩] })

/-- The type Dev is opaque (R9, D28): a configuration takes it as the argument `cfg.devs`, and nothing the
block does depends on what its references are, but for which of them are equal. Rename them one to one,
in the parameter and in the state, and every step is the same step, renamed: so configurations whose
types Dev are in bijection run alike. That the carrier is one of identifiers is log entry 3's. -/
def Obligations.DeviceReferencesAreOpaque : Prop :=
  ∀ f : Dev → Dev, (∀ a b, f a = f b → a = b) → ∀ s : State,
    step (s.renameDevices f) =
      match step s with
      | .next t => .next (t.renameDevices f)
      | .fault e => .fault e
      | .refused r => .refused r
end

