-- ==== Sys2Proof/Laws/State.lean ====
section
/-! SUPPORT. What each named update of State leaves in each field: one lemma per field and update. -/

namespace Sys2Proof.Machine

/-! ## State.raiseFault -/

@[simp] theorem State.raiseFault_cfg (s : State) (c : FaultCode) (l : Op16) :
    (s.raiseFault c l).cfg = s.cfg := rfl
@[simp] theorem State.raiseFault_engState (s : State) (c : FaultCode) (l : Op16) :
    (s.raiseFault c l).engState = s.engState := rfl
@[simp] theorem State.raiseFault_activeValid (s : State) (c : FaultCode) (l : Op16) :
    (s.raiseFault c l).activeValid = s.activeValid := rfl
@[simp] theorem State.raiseFault_activeIdx (s : State) (c : FaultCode) (l : Op16) :
    (s.raiseFault c l).activeIdx = s.activeIdx := rfl
@[simp] theorem State.raiseFault_rxbuf (s : State) (c : FaultCode) (l : Op16) :
    (s.raiseFault c l).rxbuf = s.rxbuf := rfl
@[simp] theorem State.raiseFault_first (s : State) (c : FaultCode) (l : Op16) :
    (s.raiseFault c l).first = s.first := rfl
@[simp] theorem State.raiseFault_hph (s : State) (c : FaultCode) (l : Op16) :
    (s.raiseFault c l).hph = s.hph := rfl
@[simp] theorem State.raiseFault_engLive (s : State) (c : FaultCode) (l : Op16) :
    (s.raiseFault c l).engLive = s.engLive := rfl
@[simp] theorem State.raiseFault_registry (s : State) (c : FaultCode) (l : Op16) :
    (s.raiseFault c l).registry = s.registry := rfl
@[simp] theorem State.raiseFault_regOvf (s : State) (c : FaultCode) (l : Op16) :
    (s.raiseFault c l).regOvf = s.regOvf := rfl
@[simp] theorem State.raiseFault_regDup (s : State) (c : FaultCode) (l : Op16) :
    (s.raiseFault c l).regDup = s.regDup := rfl
@[simp] theorem State.raiseFault_usr (s : State) (c : FaultCode) (l : Op16) :
    (s.raiseFault c l).usr = s.usr := rfl
@[simp] theorem State.raiseFault_cntLeft (s : State) (c : FaultCode) (l : Op16) :
    (s.raiseFault c l).cntLeft = s.cntLeft := rfl
@[simp] theorem State.raiseFault_armed (s : State) (c : FaultCode) (l : Op16) :
    (s.raiseFault c l).armed = s.armed := rfl
@[simp] theorem State.raiseFault_ovfFlag (s : State) (c : FaultCode) (l : Op16) :
    (s.raiseFault c l).ovfFlag = s.ovfFlag := rfl
@[simp] theorem State.raiseFault_startFlag (s : State) (c : FaultCode) (l : Op16) :
    (s.raiseFault c l).startFlag = s.startFlag := rfl
@[simp] theorem State.raiseFault_stopFlag (s : State) (c : FaultCode) (l : Op16) :
    (s.raiseFault c l).stopFlag = s.stopFlag := rfl
@[simp] theorem State.raiseFault_sdaOe (s : State) (c : FaultCode) (l : Op16) :
    (s.raiseFault c l).sdaOe = s.sdaOe := rfl
@[simp] theorem State.raiseFault_gcnt (s : State) (c : FaultCode) (l : Op16) :
    (s.raiseFault c l).gcnt = s.gcnt := rfl
@[simp] theorem State.raiseFault_gflag (s : State) (c : FaultCode) (l : Op16) :
    (s.raiseFault c l).gflag = s.gflag := rfl
@[simp] theorem State.raiseFault_trace (s : State) (c : FaultCode) (l : Op16) :
    (s.raiseFault c l).trace = s.trace := rfl
@[simp] theorem State.raiseFault_calls (s : State) (c : FaultCode) (l : Op16) :
    (s.raiseFault c l).calls = s.calls := rfl
@[simp] theorem State.raiseFault_fault (s : State) (c : FaultCode) (l : Op16) :
    (s.raiseFault c l).fault = some (c, l) := rfl
@[simp] theorem State.raiseFault_refused (s : State) (c : FaultCode) (l : Op16) :
    (s.raiseFault c l).refused = s.refused := rfl
@[simp] theorem State.raiseFault_answers (s : State) (c : FaultCode) (l : Op16) :
    (s.raiseFault c l).answers = s.answers := rfl
@[simp] theorem State.raiseFault_draws (s : State) (c : FaultCode) (l : Op16) :
    (s.raiseFault c l).draws = s.draws := rfl
@[simp] theorem State.raiseFault_result (s : State) (c : FaultCode) (l : Op16) :
    (s.raiseFault c l).result = s.result := rfl
@[simp] theorem State.raiseFault_schedule (s : State) (c : FaultCode) (l : Op16) :
    (s.raiseFault c l).schedule = s.schedule := rfl
@[simp] theorem State.raiseFault_program (s : State) (c : FaultCode) (l : Op16) :
    (s.raiseFault c l).program = s.program := rfl

/-! ## State.refuse -/

@[simp] theorem State.refuse_cfg (s : State) (c : RefusalCode) (w : Option Op16) :
    (s.refuse c w).cfg = s.cfg := rfl
@[simp] theorem State.refuse_engState (s : State) (c : RefusalCode) (w : Option Op16) :
    (s.refuse c w).engState = s.engState := rfl
@[simp] theorem State.refuse_activeValid (s : State) (c : RefusalCode) (w : Option Op16) :
    (s.refuse c w).activeValid = s.activeValid := rfl
@[simp] theorem State.refuse_activeIdx (s : State) (c : RefusalCode) (w : Option Op16) :
    (s.refuse c w).activeIdx = s.activeIdx := rfl
@[simp] theorem State.refuse_rxbuf (s : State) (c : RefusalCode) (w : Option Op16) :
    (s.refuse c w).rxbuf = s.rxbuf := rfl
@[simp] theorem State.refuse_first (s : State) (c : RefusalCode) (w : Option Op16) :
    (s.refuse c w).first = s.first := rfl
@[simp] theorem State.refuse_hph (s : State) (c : RefusalCode) (w : Option Op16) :
    (s.refuse c w).hph = s.hph := rfl
@[simp] theorem State.refuse_engLive (s : State) (c : RefusalCode) (w : Option Op16) :
    (s.refuse c w).engLive = s.engLive := rfl
@[simp] theorem State.refuse_registry (s : State) (c : RefusalCode) (w : Option Op16) :
    (s.refuse c w).registry = s.registry := rfl
@[simp] theorem State.refuse_regOvf (s : State) (c : RefusalCode) (w : Option Op16) :
    (s.refuse c w).regOvf = s.regOvf := rfl
@[simp] theorem State.refuse_regDup (s : State) (c : RefusalCode) (w : Option Op16) :
    (s.refuse c w).regDup = s.regDup := rfl
@[simp] theorem State.refuse_usr (s : State) (c : RefusalCode) (w : Option Op16) :
    (s.refuse c w).usr = s.usr := rfl
@[simp] theorem State.refuse_cntLeft (s : State) (c : RefusalCode) (w : Option Op16) :
    (s.refuse c w).cntLeft = s.cntLeft := rfl
@[simp] theorem State.refuse_armed (s : State) (c : RefusalCode) (w : Option Op16) :
    (s.refuse c w).armed = s.armed := rfl
@[simp] theorem State.refuse_ovfFlag (s : State) (c : RefusalCode) (w : Option Op16) :
    (s.refuse c w).ovfFlag = s.ovfFlag := rfl
@[simp] theorem State.refuse_startFlag (s : State) (c : RefusalCode) (w : Option Op16) :
    (s.refuse c w).startFlag = s.startFlag := rfl
@[simp] theorem State.refuse_stopFlag (s : State) (c : RefusalCode) (w : Option Op16) :
    (s.refuse c w).stopFlag = s.stopFlag := rfl
@[simp] theorem State.refuse_sdaOe (s : State) (c : RefusalCode) (w : Option Op16) :
    (s.refuse c w).sdaOe = s.sdaOe := rfl
@[simp] theorem State.refuse_gcnt (s : State) (c : RefusalCode) (w : Option Op16) :
    (s.refuse c w).gcnt = s.gcnt := rfl
@[simp] theorem State.refuse_gflag (s : State) (c : RefusalCode) (w : Option Op16) :
    (s.refuse c w).gflag = s.gflag := rfl
@[simp] theorem State.refuse_trace (s : State) (c : RefusalCode) (w : Option Op16) :
    (s.refuse c w).trace = s.trace := rfl
@[simp] theorem State.refuse_calls (s : State) (c : RefusalCode) (w : Option Op16) :
    (s.refuse c w).calls = s.calls := rfl
@[simp] theorem State.refuse_fault (s : State) (c : RefusalCode) (w : Option Op16) :
    (s.refuse c w).fault = s.fault := rfl
@[simp] theorem State.refuse_refused (s : State) (c : RefusalCode) (w : Option Op16) :
    (s.refuse c w).refused = s.refused.or (some (c, w)) := rfl
@[simp] theorem State.refuse_answers (s : State) (c : RefusalCode) (w : Option Op16) :
    (s.refuse c w).answers = s.answers := rfl
@[simp] theorem State.refuse_draws (s : State) (c : RefusalCode) (w : Option Op16) :
    (s.refuse c w).draws = s.draws := rfl
@[simp] theorem State.refuse_result (s : State) (c : RefusalCode) (w : Option Op16) :
    (s.refuse c w).result = s.result := rfl
@[simp] theorem State.refuse_schedule (s : State) (c : RefusalCode) (w : Option Op16) :
    (s.refuse c w).schedule = s.schedule := rfl
@[simp] theorem State.refuse_program (s : State) (c : RefusalCode) (w : Option Op16) :
    (s.refuse c w).program = s.program := rfl

/-! ## State.stall -/

@[simp] theorem State.stall_cfg (s : State) : (s.stall).cfg = s.cfg := rfl
@[simp] theorem State.stall_engState (s : State) : (s.stall).engState = s.engState := rfl
@[simp] theorem State.stall_activeValid (s : State) : (s.stall).activeValid = s.activeValid := rfl
@[simp] theorem State.stall_activeIdx (s : State) : (s.stall).activeIdx = s.activeIdx := rfl
@[simp] theorem State.stall_rxbuf (s : State) : (s.stall).rxbuf = s.rxbuf := rfl
@[simp] theorem State.stall_first (s : State) : (s.stall).first = s.first := rfl
@[simp] theorem State.stall_hph (s : State) : (s.stall).hph = .stalled := rfl
@[simp] theorem State.stall_engLive (s : State) : (s.stall).engLive = s.engLive := rfl
@[simp] theorem State.stall_registry (s : State) : (s.stall).registry = s.registry := rfl
@[simp] theorem State.stall_regOvf (s : State) : (s.stall).regOvf = s.regOvf := rfl
@[simp] theorem State.stall_regDup (s : State) : (s.stall).regDup = s.regDup := rfl
@[simp] theorem State.stall_usr (s : State) : (s.stall).usr = s.usr := rfl
@[simp] theorem State.stall_cntLeft (s : State) : (s.stall).cntLeft = s.cntLeft := rfl
@[simp] theorem State.stall_armed (s : State) : (s.stall).armed = s.armed := rfl
@[simp] theorem State.stall_ovfFlag (s : State) : (s.stall).ovfFlag = s.ovfFlag := rfl
@[simp] theorem State.stall_startFlag (s : State) : (s.stall).startFlag = s.startFlag := rfl
@[simp] theorem State.stall_stopFlag (s : State) : (s.stall).stopFlag = s.stopFlag := rfl
@[simp] theorem State.stall_sdaOe (s : State) : (s.stall).sdaOe = s.sdaOe := rfl
@[simp] theorem State.stall_gcnt (s : State) : (s.stall).gcnt = s.gcnt := rfl
@[simp] theorem State.stall_gflag (s : State) : (s.stall).gflag = s.gflag := rfl
@[simp] theorem State.stall_trace (s : State) : (s.stall).trace = s.trace := rfl
@[simp] theorem State.stall_calls (s : State) : (s.stall).calls = s.calls := rfl
@[simp] theorem State.stall_fault (s : State) : (s.stall).fault = s.fault := rfl
@[simp] theorem State.stall_refused (s : State) : (s.stall).refused = s.refused := rfl
@[simp] theorem State.stall_answers (s : State) : (s.stall).answers = s.answers := rfl
@[simp] theorem State.stall_draws (s : State) : (s.stall).draws = s.draws := rfl
@[simp] theorem State.stall_result (s : State) : (s.stall).result = s.result := rfl
@[simp] theorem State.stall_schedule (s : State) : (s.stall).schedule = s.schedule := rfl
@[simp] theorem State.stall_program (s : State) : (s.stall).program = s.program := rfl

/-! ## lpAckStart -/

@[simp] theorem lpAckStart_cfg (s : State) : (lpAckStart s).cfg = s.cfg := rfl
@[simp] theorem lpAckStart_engState (s : State) : (lpAckStart s).engState = s.engState := rfl
@[simp] theorem lpAckStart_activeValid (s : State) :
    (lpAckStart s).activeValid = s.activeValid := rfl
@[simp] theorem lpAckStart_activeIdx (s : State) : (lpAckStart s).activeIdx = s.activeIdx := rfl
@[simp] theorem lpAckStart_rxbuf (s : State) : (lpAckStart s).rxbuf = s.rxbuf := rfl
@[simp] theorem lpAckStart_first (s : State) : (lpAckStart s).first = s.first := rfl
@[simp] theorem lpAckStart_hph (s : State) : (lpAckStart s).hph = s.hph := rfl
@[simp] theorem lpAckStart_engLive (s : State) : (lpAckStart s).engLive = s.engLive := rfl
@[simp] theorem lpAckStart_registry (s : State) : (lpAckStart s).registry = s.registry := rfl
@[simp] theorem lpAckStart_regOvf (s : State) : (lpAckStart s).regOvf = s.regOvf := rfl
@[simp] theorem lpAckStart_regDup (s : State) : (lpAckStart s).regDup = s.regDup := rfl
@[simp] theorem lpAckStart_usr (s : State) : (lpAckStart s).usr = s.usr := rfl
@[simp] theorem lpAckStart_cntLeft (s : State) : (lpAckStart s).cntLeft = s.cntLeft := rfl
@[simp] theorem lpAckStart_armed (s : State) : (lpAckStart s).armed = s.armed := rfl
@[simp] theorem lpAckStart_ovfFlag (s : State) : (lpAckStart s).ovfFlag = s.ovfFlag := rfl
@[simp] theorem lpAckStart_startFlag (s : State) : (lpAckStart s).startFlag = false := rfl
@[simp] theorem lpAckStart_stopFlag (s : State) : (lpAckStart s).stopFlag = s.stopFlag := rfl
@[simp] theorem lpAckStart_sdaOe (s : State) : (lpAckStart s).sdaOe = s.sdaOe := rfl
@[simp] theorem lpAckStart_gcnt (s : State) : (lpAckStart s).gcnt = s.gcnt := rfl
@[simp] theorem lpAckStart_gflag (s : State) : (lpAckStart s).gflag = s.gflag := rfl
@[simp] theorem lpAckStart_trace (s : State) : (lpAckStart s).trace = s.trace := rfl
@[simp] theorem lpAckStart_calls (s : State) : (lpAckStart s).calls = s.calls := rfl
@[simp] theorem lpAckStart_fault (s : State) : (lpAckStart s).fault = s.fault := rfl
@[simp] theorem lpAckStart_refused (s : State) : (lpAckStart s).refused = s.refused := rfl
@[simp] theorem lpAckStart_answers (s : State) : (lpAckStart s).answers = s.answers := rfl
@[simp] theorem lpAckStart_draws (s : State) : (lpAckStart s).draws = s.draws := rfl
@[simp] theorem lpAckStart_result (s : State) : (lpAckStart s).result = s.result := rfl
@[simp] theorem lpAckStart_schedule (s : State) : (lpAckStart s).schedule = s.schedule := rfl
@[simp] theorem lpAckStart_program (s : State) : (lpAckStart s).program = s.program := rfl

/-! ## lpClrStop -/

@[simp] theorem lpClrStop_cfg (s : State) : (lpClrStop s).cfg = s.cfg := rfl
@[simp] theorem lpClrStop_engState (s : State) : (lpClrStop s).engState = s.engState := rfl
@[simp] theorem lpClrStop_activeValid (s : State) : (lpClrStop s).activeValid = s.activeValid := rfl
@[simp] theorem lpClrStop_activeIdx (s : State) : (lpClrStop s).activeIdx = s.activeIdx := rfl
@[simp] theorem lpClrStop_rxbuf (s : State) : (lpClrStop s).rxbuf = s.rxbuf := rfl
@[simp] theorem lpClrStop_first (s : State) : (lpClrStop s).first = s.first := rfl
@[simp] theorem lpClrStop_hph (s : State) : (lpClrStop s).hph = s.hph := rfl
@[simp] theorem lpClrStop_engLive (s : State) : (lpClrStop s).engLive = s.engLive := rfl
@[simp] theorem lpClrStop_registry (s : State) : (lpClrStop s).registry = s.registry := rfl
@[simp] theorem lpClrStop_regOvf (s : State) : (lpClrStop s).regOvf = s.regOvf := rfl
@[simp] theorem lpClrStop_regDup (s : State) : (lpClrStop s).regDup = s.regDup := rfl
@[simp] theorem lpClrStop_usr (s : State) : (lpClrStop s).usr = s.usr := rfl
@[simp] theorem lpClrStop_cntLeft (s : State) : (lpClrStop s).cntLeft = s.cntLeft := rfl
@[simp] theorem lpClrStop_armed (s : State) : (lpClrStop s).armed = s.armed := rfl
@[simp] theorem lpClrStop_ovfFlag (s : State) : (lpClrStop s).ovfFlag = s.ovfFlag := rfl
@[simp] theorem lpClrStop_startFlag (s : State) : (lpClrStop s).startFlag = s.startFlag := rfl
@[simp] theorem lpClrStop_stopFlag (s : State) : (lpClrStop s).stopFlag = false := rfl
@[simp] theorem lpClrStop_sdaOe (s : State) : (lpClrStop s).sdaOe = s.sdaOe := rfl
@[simp] theorem lpClrStop_gcnt (s : State) : (lpClrStop s).gcnt = s.gcnt := rfl
@[simp] theorem lpClrStop_gflag (s : State) : (lpClrStop s).gflag = s.gflag := rfl
@[simp] theorem lpClrStop_trace (s : State) : (lpClrStop s).trace = s.trace := rfl
@[simp] theorem lpClrStop_calls (s : State) : (lpClrStop s).calls = s.calls := rfl
@[simp] theorem lpClrStop_fault (s : State) : (lpClrStop s).fault = s.fault := rfl
@[simp] theorem lpClrStop_refused (s : State) : (lpClrStop s).refused = s.refused := rfl
@[simp] theorem lpClrStop_answers (s : State) : (lpClrStop s).answers = s.answers := rfl
@[simp] theorem lpClrStop_draws (s : State) : (lpClrStop s).draws = s.draws := rfl
@[simp] theorem lpClrStop_result (s : State) : (lpClrStop s).result = s.result := rfl
@[simp] theorem lpClrStop_schedule (s : State) : (lpClrStop s).schedule = s.schedule := rfl
@[simp] theorem lpClrStop_program (s : State) : (lpClrStop s).program = s.program := rfl

/-! ## gPrep -/

@[simp] theorem gPrep_cfg (s : State) : (gPrep s).cfg = s.cfg := rfl
@[simp] theorem gPrep_engState (s : State) : (gPrep s).engState = s.engState := rfl
@[simp] theorem gPrep_activeValid (s : State) : (gPrep s).activeValid = s.activeValid := rfl
@[simp] theorem gPrep_activeIdx (s : State) : (gPrep s).activeIdx = s.activeIdx := rfl
@[simp] theorem gPrep_rxbuf (s : State) : (gPrep s).rxbuf = s.rxbuf := rfl
@[simp] theorem gPrep_first (s : State) : (gPrep s).first = s.first := rfl
@[simp] theorem gPrep_hph (s : State) : (gPrep s).hph = s.hph := rfl
@[simp] theorem gPrep_engLive (s : State) : (gPrep s).engLive = s.engLive := rfl
@[simp] theorem gPrep_registry (s : State) : (gPrep s).registry = s.registry := rfl
@[simp] theorem gPrep_regOvf (s : State) : (gPrep s).regOvf = s.regOvf := rfl
@[simp] theorem gPrep_regDup (s : State) : (gPrep s).regDup = s.regDup := rfl
@[simp] theorem gPrep_usr (s : State) : (gPrep s).usr = s.usr := rfl
@[simp] theorem gPrep_cntLeft (s : State) : (gPrep s).cntLeft = s.cntLeft := rfl
@[simp] theorem gPrep_armed (s : State) : (gPrep s).armed = s.armed := rfl
@[simp] theorem gPrep_ovfFlag (s : State) : (gPrep s).ovfFlag = s.ovfFlag := rfl
@[simp] theorem gPrep_startFlag (s : State) : (gPrep s).startFlag = s.startFlag := rfl
@[simp] theorem gPrep_stopFlag (s : State) : (gPrep s).stopFlag = s.stopFlag := rfl
@[simp] theorem gPrep_sdaOe (s : State) : (gPrep s).sdaOe = s.sdaOe := rfl
@[simp] theorem gPrep_gcnt (s : State) :
    (gPrep s).gcnt = if s.cfg.guardPresent then s.cfg.guardPreload else s.gcnt := rfl
@[simp] theorem gPrep_gflag (s : State) :
    (gPrep s).gflag = if s.cfg.guardPresent then false else s.gflag := rfl
@[simp] theorem gPrep_trace (s : State) : (gPrep s).trace = s.trace := rfl
@[simp] theorem gPrep_calls (s : State) : (gPrep s).calls = s.calls := rfl
@[simp] theorem gPrep_fault (s : State) : (gPrep s).fault = s.fault := rfl
@[simp] theorem gPrep_refused (s : State) : (gPrep s).refused = s.refused := rfl
@[simp] theorem gPrep_answers (s : State) : (gPrep s).answers = s.answers := rfl
@[simp] theorem gPrep_draws (s : State) : (gPrep s).draws = s.draws := rfl
@[simp] theorem gPrep_result (s : State) : (gPrep s).result = s.result := rfl
@[simp] theorem gPrep_schedule (s : State) : (gPrep s).schedule = s.schedule := rfl
@[simp] theorem gPrep_program (s : State) : (gPrep s).program = s.program := rfl

/-! ## guardTick -/

@[simp] theorem guardTick_cfg (s : State) : (guardTick s).cfg = s.cfg := rfl
@[simp] theorem guardTick_engState (s : State) : (guardTick s).engState = s.engState := rfl
@[simp] theorem guardTick_activeValid (s : State) : (guardTick s).activeValid = s.activeValid := rfl
@[simp] theorem guardTick_activeIdx (s : State) : (guardTick s).activeIdx = s.activeIdx := rfl
@[simp] theorem guardTick_rxbuf (s : State) : (guardTick s).rxbuf = s.rxbuf := rfl
@[simp] theorem guardTick_first (s : State) : (guardTick s).first = s.first := rfl
@[simp] theorem guardTick_hph (s : State) : (guardTick s).hph = s.hph := rfl
@[simp] theorem guardTick_engLive (s : State) : (guardTick s).engLive = s.engLive := rfl
@[simp] theorem guardTick_registry (s : State) : (guardTick s).registry = s.registry := rfl
@[simp] theorem guardTick_regOvf (s : State) : (guardTick s).regOvf = s.regOvf := rfl
@[simp] theorem guardTick_regDup (s : State) : (guardTick s).regDup = s.regDup := rfl
@[simp] theorem guardTick_usr (s : State) : (guardTick s).usr = s.usr := rfl
@[simp] theorem guardTick_cntLeft (s : State) : (guardTick s).cntLeft = s.cntLeft := rfl
@[simp] theorem guardTick_armed (s : State) : (guardTick s).armed = s.armed := rfl
@[simp] theorem guardTick_ovfFlag (s : State) : (guardTick s).ovfFlag = s.ovfFlag := rfl
@[simp] theorem guardTick_startFlag (s : State) : (guardTick s).startFlag = s.startFlag := rfl
@[simp] theorem guardTick_stopFlag (s : State) : (guardTick s).stopFlag = s.stopFlag := rfl
@[simp] theorem guardTick_sdaOe (s : State) : (guardTick s).sdaOe = s.sdaOe := rfl
@[simp] theorem guardTick_gcnt (s : State) :
    (guardTick s).gcnt = if s.cfg.guardPresent then s.gcntNext else s.gcnt := rfl
@[simp] theorem guardTick_gflag (s : State) :
    (guardTick s).gflag = if s.cfg.guardPresent && decide (s.gcntNext = s.cfg.guardTop) then true else s.gflag := rfl
@[simp] theorem guardTick_trace (s : State) : (guardTick s).trace = s.trace := rfl
@[simp] theorem guardTick_calls (s : State) : (guardTick s).calls = s.calls := rfl
@[simp] theorem guardTick_fault (s : State) : (guardTick s).fault = s.fault := rfl
@[simp] theorem guardTick_refused (s : State) : (guardTick s).refused = s.refused := rfl
@[simp] theorem guardTick_answers (s : State) : (guardTick s).answers = s.answers := rfl
@[simp] theorem guardTick_draws (s : State) : (guardTick s).draws = s.draws := rfl
@[simp] theorem guardTick_result (s : State) : (guardTick s).result = s.result := rfl
@[simp] theorem guardTick_schedule (s : State) : (guardTick s).schedule = s.schedule := rfl
@[simp] theorem guardTick_program (s : State) : (guardTick s).program = s.program := rfl

/-! ## The lines after an update -/

/-- G.PREP does not release the clock. -/
@[simp] theorem gPrep_sclHeld (s : State) : (gPrep s).sclHeld = s.sclHeld := rfl

/-- G.PREP does not move SDA. -/
@[simp] theorem gPrep_sOut (s : State) : (gPrep s).sOut = s.sOut := rfl

/-- Clearing STOP_FLAG does not release the clock. -/
@[simp] theorem lpClrStop_sclHeld (s : State) : (lpClrStop s).sclHeld = s.sclHeld := rfl

end Sys2Proof.Machine
end

