-- ==== Sys2Proof/Laws/Ops.lean ====
section
/-! SUPPORT. One specification lemma per shared operation: what it answers and everything it can do. -/

namespace Sys2Proof.Machine

open Sys2Proof.Config (Answer)

/-! ## Outcomes -/

/-- An enabled step of a ready state is its body. -/
theorem guarded_of_ready {w : Op16} {p : Prop} [Decidable p] {s : State}
    {k : Host.Outcome State Fault Refusal} (hf : s.fault = none) (hc : s.cfg.Wf) (hp : p) :
    guarded w p s k = k := by
  unfold guarded; rw [hf]; simp only [if_pos hc, if_pos hp]

/-- A step whose condition is false does not exist (R15). -/
theorem guarded_of_not_enabled {w : Op16} {p : Prop} [Decidable p] {s : State}
    {k : Host.Outcome State Fault Refusal} (hf : s.fault = none) (hc : s.cfg.Wf) (hp : ¬ p) :
    guarded w p s k = .refused (.notEnabled w) := by
  unfold guarded; rw [hf]; simp only [if_pos hc, if_neg hp]

/-- No step of a faulted state (R261). -/
theorem guarded_of_faulted {w : Op16} {p : Prop} [Decidable p] {s : State}
    {k : Host.Outcome State Fault Refusal} {c : FaultCode} {l : Op16}
    (hf : s.fault = some (c, l)) : guarded w p s k = .fault (.recorded c) := by
  unfold guarded; rw [hf]

/-- Every step is refused under a configuration that breaks R9 (R10, R263). -/
theorem guarded_of_bad_config {w : Op16} {p : Prop} [Decidable p] {s : State}
    {k : Host.Outcome State Fault Refusal} (hf : s.fault = none) (hc : ¬ s.cfg.Wf) :
    guarded w p s k = .next (s.refuse .badConfig none) := by
  unfold guarded; rw [hf]; simp only [if_neg hc]

/-- The ways a guarded step answers a next state. -/
theorem guarded_next_cases {w : Op16} {p : Prop} [Decidable p] {s t : State}
    {k : Host.Outcome State Fault Refusal} (h : guarded w p s k = .next t) :
    s.fault = none ∧
      ((s.cfg.Wf ∧ p ∧ k = .next t) ∨ (¬ s.cfg.Wf ∧ t = s.refuse .badConfig none)) := by
  unfold guarded at h
  split at h
  · cases h
  · rename_i hf
    refine ⟨hf, ?_⟩
    split at h
    · rename_i hc
      split at h
      · rename_i hp; exact .inl ⟨hc, hp, h⟩
      · cases h
    · rename_i hc; exact .inr ⟨hc, by cases h; rfl⟩

/-- The ways a handler's writes become the next state (R261). -/
theorem finish_cases (l : Op16) (s : State) (m : Micro Unit) :
    (∃ t, m = .ok () t ∧ finish l s m = .next t) ∨ (∃ t, m = .hold t ∧ finish l s m = .next t) ∨
      (∃ c, m = .fault c ∧ finish l s m = .next (s.raiseFault c l)) := by
  cases m with
  | ok a t => exact .inl ⟨t, rfl, rfl⟩
  | hold t => exact .inr (.inl ⟨t, rfl, rfl⟩)
  | fault c => exact .inr (.inr ⟨c, rfl, rfl⟩)

@[simp] theorem Micro.bind_ok {α β : Type} (a : α) (s : State) (f : α → State → Micro β) :
    (Micro.ok a s).bind f = f a s := rfl

@[simp] theorem Micro.bind_hold {α β : Type} (s : State) (f : α → State → Micro β) :
    (Micro.hold s).bind f = .hold s := rfl

@[simp] theorem Micro.bind_fault {α β : Type} (c : FaultCode) (f : α → State → Micro β) :
    (Micro.fault c).bind f = .fault c := rfl

@[simp] theorem Micro.andThen_ok {β : Type} (s : State) (f : State → Micro β) :
    (Micro.ok () s).andThen f = f s := rfl

@[simp] theorem Micro.andThen_hold {β : Type} (s : State) (f : State → Micro β) :
    (Micro.hold s).andThen f = .hold s := rfl

@[simp] theorem Micro.andThen_fault {β : Type} (c : FaultCode) (f : State → Micro β) :
    (Micro.fault c).andThen f = .fault c := rfl

/-! ## Line primitives -/

theorem lpRelSda_of_held {s : State} (h : s.sclHeld = true) :
    lpRelSda s = .ok () { s with sdaOe := false } := by
  unfold lpRelSda; rw [if_pos h]

theorem lpRelSda_of_not_held {s : State} (h : s.sclHeld = false) :
    lpRelSda s = .fault .spuriousLine := by
  unfold lpRelSda; rw [if_neg (by simp [h])]

theorem lpDrive_of_held {b : Byte} {s : State} (h : s.sclHeld = true) :
    lpDrive b s = .ok () { s with usr := b, sdaOe := true } := by
  unfold lpDrive; rw [if_pos h]

theorem lpDrive_of_not_held {b : Byte} {s : State} (h : s.sclHeld = false) :
    lpDrive b s = .fault .spuriousLine := by
  unfold lpDrive; rw [if_neg (by simp [h])]

theorem lpArmStart_of_held {s : State} (h : s.sclHeld = true) :
    lpArmStart s =
      .ok () { s with sdaOe := false, armed := false, stopFlag := false, ovfFlag := false } := by
  unfold lpArmStart; rw [if_pos h]

theorem lpArmStart_of_not_held {s : State} (h : s.sclHeld = false) :
    lpArmStart s = .fault .spuriousLine := by
  unfold lpArmStart; rw [if_neg (by simp [h])]

theorem lpArm_one (s : State) :
    lpArm 1 s = .ok () { s with armed := true, cntLeft := 1, ovfFlag := false } := rfl

theorem lpArm_eight (s : State) :
    lpArm 8 s = .ok () { s with armed := true, cntLeft := 8, ovfFlag := false } := rfl

theorem lpArm_other {n : Nat} (h1 : n ≠ 1) (h8 : n ≠ 8) (s : State) :
    lpArm n s = .fault .badArm := by
  unfold lpArm; rw [if_neg (by omega)]

/-! ## The guard -/

theorem gWait_of_open {s : State} (h : s.GuardOpen) : gWait s = .ok () s := by
  unfold gWait; rw [if_pos h]

theorem gWait_of_absent {s : State} (h : s.cfg.guardPresent = false) : gWait s = .ok () s :=
  gWait_of_open (.inl h)

theorem gWait_of_closed {s : State} (hp : s.cfg.guardPresent = true) (hg : s.gflag = false) :
    gWait s = .hold { s with hph := .gwait } := by
  unfold gWait; rw [if_neg (by simp [hp, hg])]

/-- Without a guard, G.PREP changes nothing (R135). -/
theorem gPrep_of_absent {s : State} (h : s.cfg.guardPresent = false) : gPrep s = s := by
  unfold gPrep; simp [h]

/-- Without a guard, TICK changes nothing (R135). -/
theorem guardTick_of_absent {s : State} (h : s.cfg.guardPresent = false) : guardTick s = s := by
  unfold guardTick; simp [h]

/-! ## The registry -/

/-- The slot found is a filled one. -/
theorem firstMatch_lt {l : List Slot} {a : BusAddr} {r : Nat} (h : firstMatch l a = some r) :
    r < l.length := by
  induction l generalizing r with
  | nil => cases h
  | cons x rest ih =>
    unfold firstMatch at h
    split at h
    · cases h; exact Nat.zero_lt_succ _
    · obtain ⟨q, hq, rfl⟩ := Option.map_eq_some_iff.mp h
      exact Nat.succ_lt_succ (ih hq)

/-- A filled slot has a device. -/
theorem slotDev?_of_lt {s : State} {i : Nat} (h : i < s.regCount) :
    ∃ d, s.slotDev? i = some d := by
  unfold State.regCount at h
  exact ⟨_, by unfold State.slotDev?; rw [List.getElem?_eq_getElem h]; rfl⟩

/-- The registry never outgrows its capacity (R29, R111). -/
theorem insertSlot_length_le {a : BusAddr} {d : Dev} {s : State}
    (h : s.registry.length ≤ s.cfg.regCapacity) :
    (insertSlot a d s).registry.length ≤ s.cfg.regCapacity := by
  unfold insertSlot State.regCount
  split
  · exact h
  · rename_i hne
    simpa using Nat.lt_of_le_of_ne h hne

/-! ## Capability calls -/

/-- Drawing an answer changes the waiting answers and the count of free values, nothing else. -/
theorem drawAnswer_eq (s : State) (d : Dev) :
    s.drawAnswer d = ((nextAnswer d s.answers s.draws).1,
      { s with
        answers := (nextAnswer d s.answers s.draws).2.1
        draws := (nextAnswer d s.answers s.draws).2.2 }) := rfl

/-- What drawing an answer leaves, read off the answer given. -/
theorem drawAnswer_frame {s t : State} {d : Dev} {a : Answer} (h : s.drawAnswer d = (a, t)) :
    t = { s with answers := t.answers, draws := t.draws } := by
  rw [drawAnswer_eq] at h; cases h; rfl

/-- `CallTransmit` of a slot that is not filled. -/
theorem callTransmit_of_no_device {i : Nat} {f : Bool} {s : State} (h : s.slotDev? i = none) :
    callTransmit i f s = .fault .noActive := by
  unfold callTransmit; rw [h]

/-- `CallTransmit` of a device that replies: one TX entry, and the byte. -/
theorem callTransmit_of_reply {i : Nat} {f : Bool} {s t : State} {d : Dev} {v : Byte} {m : Bool}
    (h : s.slotDev? i = some d) (ha : s.drawAnswer d = (.reply v m, t)) :
    callTransmit i f s = .ok v { t with calls := t.calls ++ [.tx i f v] } := by
  unfold callTransmit; rw [h]; simp only [ha]

/-- `CallTransmit` of a device that stalls: no entry, and HPH = STALLED. -/
theorem callTransmit_of_stall {i : Nat} {f : Bool} {s t : State} {d : Dev}
    (h : s.slotDev? i = some d) (ha : s.drawAnswer d = (.stall, t)) :
    callTransmit i f s = .hold t.stall := by
  unfold callTransmit; rw [h]; simp only [ha]

/-- `CallReceive` of a slot that is not filled. -/
theorem callReceive_of_no_device {i : Nat} {f : Bool} {b : Byte} {s : State}
    (h : s.slotDev? i = none) : callReceive i f b s = .fault .noActive := by
  unfold callReceive; rw [h]

/-- `CallReceive` of a device that replies: one RX entry, and the continue flag. -/
theorem callReceive_of_reply {i : Nat} {f : Bool} {b : Byte} {s t : State} {d : Dev} {v : Byte}
    {m : Bool} (h : s.slotDev? i = some d) (ha : s.drawAnswer d = (.reply v m, t)) :
    callReceive i f b s = .ok m { t with calls := t.calls ++ [.rx i f b m] } := by
  unfold callReceive; rw [h]; simp only [ha]

/-- `CallReceive` of a device that stalls: no entry, and HPH = STALLED. -/
theorem callReceive_of_stall {i : Nat} {f : Bool} {b : Byte} {s t : State} {d : Dev}
    (h : s.slotDev? i = some d) (ha : s.drawAnswer d = (.stall, t)) :
    callReceive i f b s = .hold t.stall := by
  unfold callReceive; rw [h]; simp only [ha]

/-! ## Procedures -/

theorem enterWaitStart_of_held {s : State} (h : s.sclHeld = true) :
    enterWaitStart s = .ok ()
      { s with
        engState := .waitStart, activeValid := false, sdaOe := false, armed := false,
        stopFlag := false, ovfFlag := false } := by
  unfold enterWaitStart; rw [lpArmStart_of_held (by exact h)]

theorem enterAddr_of_held {s : State} (h : s.sclHeld = true) :
    enterAddr s = .ok ()
      { s with
        engState := .addr, sdaOe := false, armed := true, cntLeft := 8, ovfFlag := false } := by
  unfold enterAddr; rw [lpRelSda_of_held (by exact h)]; rfl

theorem prepRecvCont_of_held {s : State} (h : s.sclHeld = true) :
    prepRecvCont s = .ok ()
      { s with
        engState := .recv, sdaOe := false, armed := true, cntLeft := 8, ovfFlag := false } := by
  unfold prepRecvCont; rw [lpRelSda_of_held (by exact h)]; rfl

end Sys2Proof.Machine
end

