-- ==== Sys2Proof/Laws/PerInstr.lean ====
section
/-! SUPPORT. Statements about every operation as syntax, one lemma per constructor. -/

namespace Sys2Proof.Laws

/-- CLASS of an operation: the group R84 puts it in. -/
def classOf : Instr → BitVec 4
  | .ovfStop _ => 0x0
  | .ovfWaitStart => 0x0
  | .ovfAddr => 0x0
  | .ovfPrepSend => 0x0
  | .ovfSend => 0x0
  | .ovfRecvAck => 0x0
  | .ovfPrepRecv => 0x0
  | .ovfRecv => 0x0
  | .ovfRecvProc => 0x0
  | .startH => 0x1
  | .gresumePrepSend => 0x2
  | .gresumePrepRecv => 0x2
  | .bit _ => 0x3
  | .bstart => 0x4
  | .bstop => 0x5
  | .tick => 0x6
  | .init => 0x8
  | .register _ _ => 0x9
  | .lookup _ => 0xA
  | .txcall _ => 0xB
  | .rxcall _ _ => 0xC
  | .lpRelSda => 0xD
  | .lpDrive _ => 0xD
  | .lpArm1 => 0xD
  | .lpArm8 => 0xD
  | .lpArmStart => 0xD
  | .lpAckStart => 0xD
  | .lpClrStop => 0xD
  | .gPrep => 0xE
  | .gWait => 0xE

/-- The word of an operation carries the CLASS of its group (R84). -/
def EncodeClass.Statement (i : Instr) : Prop := (encode i).extractLsb' 12 4 = classOf i

/-- A 7-bit field below a class word leaves its CLASS alone. -/
theorem class_of_field7 : ∀ a : BitVec 7,
    ((0x9000 : Op16) ||| a.setWidth 16).extractLsb' 12 4 = 0x9 ∧
    ((0xA000 : Op16) ||| a.setWidth 16).extractLsb' 12 4 = 0xA := by decide

/-- An 8-bit field below a class word leaves its CLASS alone. -/
theorem class_of_field8 : ∀ b : BitVec 8,
    ((0xC000 : Op16) ||| b.setWidth 16).extractLsb' 12 4 = 0xC ∧
    ((0xC100 : Op16) ||| b.setWidth 16).extractLsb' 12 4 = 0xC ∧
    ((0xD100 : Op16) ||| b.setWidth 16).extractLsb' 12 4 = 0xD := by decide

theorem EncodeClass.ovfStop (st : EngState) : Statement (.ovfStop st) := by cases st <;> rfl
theorem EncodeClass.ovfWaitStart : Statement .ovfWaitStart := rfl
theorem EncodeClass.ovfAddr : Statement .ovfAddr := rfl
theorem EncodeClass.ovfPrepSend : Statement .ovfPrepSend := rfl
theorem EncodeClass.ovfSend : Statement .ovfSend := rfl
theorem EncodeClass.ovfRecvAck : Statement .ovfRecvAck := rfl
theorem EncodeClass.ovfPrepRecv : Statement .ovfPrepRecv := rfl
theorem EncodeClass.ovfRecv : Statement .ovfRecv := rfl
theorem EncodeClass.ovfRecvProc : Statement .ovfRecvProc := rfl
theorem EncodeClass.startH : Statement .startH := rfl
theorem EncodeClass.gresumePrepSend : Statement .gresumePrepSend := rfl
theorem EncodeClass.gresumePrepRecv : Statement .gresumePrepRecv := rfl
theorem EncodeClass.bit (m : Bool) : Statement (.bit m) := by cases m <;> rfl
theorem EncodeClass.bstart : Statement .bstart := rfl
theorem EncodeClass.bstop : Statement .bstop := rfl
theorem EncodeClass.tick : Statement .tick := rfl
theorem EncodeClass.init : Statement .init := rfl
theorem EncodeClass.register (a : Nat) (d : Dev) : Statement (.register a d) :=
  (class_of_field7 (BitVec.ofNat 7 a)).1
theorem EncodeClass.lookup (a : BusAddr) : Statement (.lookup a) := (class_of_field7 a).2
theorem EncodeClass.txcall (f : Bool) : Statement (.txcall f) := by cases f <;> rfl
theorem EncodeClass.rxcall (f : Bool) (b : Byte) : Statement (.rxcall f b) := by
  cases f
  · exact (class_of_field8 b).1
  · exact (class_of_field8 b).2.1
theorem EncodeClass.lpRelSda : Statement .lpRelSda := rfl
theorem EncodeClass.lpDrive (b : Byte) : Statement (.lpDrive b) := (class_of_field8 b).2.2
theorem EncodeClass.lpArm1 : Statement .lpArm1 := rfl
theorem EncodeClass.lpArm8 : Statement .lpArm8 := rfl
theorem EncodeClass.lpArmStart : Statement .lpArmStart := rfl
theorem EncodeClass.lpAckStart : Statement .lpAckStart := rfl
theorem EncodeClass.lpClrStop : Statement .lpClrStop := rfl
theorem EncodeClass.gPrep : Statement .gPrep := rfl
theorem EncodeClass.gWait : Statement .gWait := rfl

end Sys2Proof.Laws
end

