-- ==== Sys2Proof/Laws/Step.lean ====
section
/-! SUPPORT. What a step can do, how offers are taken and made, and renamed states field by field. -/

namespace Sys2Proof.Machine

open Sys2Proof.Config (Answer)

/-! ## Taking an offer -/

/-- Taking an offer changes nothing but the two queues. -/
theorem fetch_frame {s u : State} {o : Offer} (h : s.fetch = some (o, u)) :
    u = { s with schedule := u.schedule, program := u.program } := by
  unfold State.fetch at h
  split at h
  · cases h; rfl
  · split at h
    · cases h; rfl
    · split at h <;> cases h
      rfl

/-- No step, in a state that could have one (R15, R200). -/
theorem refuseNoAgentsStep_of_ready {s : State} (i : Instr) (hf : s.fault = none) (hc : s.cfg.Wf) :
    refuseNoAgentsStep i s = .refused (.notEnabled (encode i)) :=
  guarded_of_not_enabled hf hc id

/-- Everything a step that answers a next state can have done: run the operation it was offered, refused
an Invalid word (R96), or refused what is no agent's step, under a configuration that breaks R9. -/
theorem step_cases {s t : State} (h : step s = .next t) :
    s.fault = none ∧ ∃ o u, s.fetch = some (o, u) ∧
      ((∃ i, decodeOffer o = some i ∧ offerAllows i o = true ∧ exec i u = .next t) ∨
       (decodeOffer o = none ∧ refuseInvalid o u = .next t) ∨
       (∃ i, decodeOffer o = some i ∧ offerAllows i o = false ∧ ¬ u.cfg.Wf ∧
         t = u.refuse .badConfig none)) := by
  unfold step at h
  split at h
  · cases h
  · rename_i hf
    refine ⟨hf, ?_⟩
    split at h
    · unfold noStepLeft at h; split at h <;> cases h
    · rename_i o u hu
      refine ⟨o, u, hu, ?_⟩
      split at h
      · rename_i i hi
        split at h
        · rename_i ha; exact .inl ⟨i, hi, ha, h⟩
        · rename_i ha
          refine .inr (.inr ⟨i, hi, by simpa using ha, ?_⟩)
          rcases (guarded_next_cases h).2 with ⟨_, hp, _⟩ | ⟨hc, ht⟩
          · exact hp.elim
          · exact ⟨hc, ht⟩
      · rename_i hi; exact .inr (.inl ⟨hi, h⟩)

/-! ## Making an offer -/

theorem registerOffer_of_lt {a : Nat} (d : Dev) (h : a < 128) :
    registerOffer a d = .word (encode (.register a d)) d := if_pos h

theorem registerOffer_of_ge {a : Nat} (d : Dev) (h : 128 ≤ a) :
    registerOffer a d = .registerCall a d := if_neg (Nat.not_lt.mpr h)

theorem bareOffer_of_micro {i : Instr} (w : Op16) (h : agentOf i = .microOperation) :
    bareOffer w i = .micro w := if_pos h

theorem bareOffer_of_agent {i : Instr} (w : Op16) (h : agentOf i ≠ .microOperation) :
    bareOffer w i = .word w Dev.absent := if_neg h

/-! ## The type Dev renamed: no other parameter changes -/

@[simp] theorem renameDevices_regCapacity (p : Config.Params) (f : Dev → Dev) :
    (p.renameDevices f).regCapacity = p.regCapacity := rfl
@[simp] theorem renameDevices_guardPresent (p : Config.Params) (f : Dev → Dev) :
    (p.renameDevices f).guardPresent = p.guardPresent := rfl
@[simp] theorem renameDevices_guardCntW (p : Config.Params) (f : Dev → Dev) :
    (p.renameDevices f).guardCntW = p.guardCntW := rfl
@[simp] theorem renameDevices_guardPreload (p : Config.Params) (f : Dev → Dev) :
    (p.renameDevices f).guardPreload = p.guardPreload := rfl
@[simp] theorem renameDevices_guardTop (p : Config.Params) (f : Dev → Dev) :
    (p.renameDevices f).guardTop = p.guardTop := rfl
@[simp] theorem renameDevices_slotW (p : Config.Params) (f : Dev → Dev) :
    (p.renameDevices f).slotW = p.slotW := rfl
@[simp] theorem renameDevices_wf (p : Config.Params) (f : Dev → Dev) :
    (p.renameDevices f).Wf ↔ p.Wf := Iff.rfl

/-- A reference is of the type Dev exactly if its new name is of the renamed type. -/
@[simp] theorem renameDevices_hasDev {f : Dev → Dev} (hf : ∀ a b, f a = f b → a = b)
    (p : Config.Params) (d : Dev) : (p.renameDevices f).hasDev (f d) = p.hasDev d := by
  unfold Config.Params.hasDev Config.Params.renameDevices
  cases p.devs with
  | none => rfl
  | some l =>
    refine decide_eq_decide.mpr ⟨fun h => ?_, List.mem_map_of_mem⟩
    obtain ⟨e, he, hfe⟩ := List.mem_map.mp h
    exact hf e d hfe ▸ he

/-! ## State.renameDevices -/

@[simp] theorem State.renameDevices_cfg (f : Dev → Dev) (s : State) :
    (s.renameDevices f).cfg = s.cfg.renameDevices f := rfl
@[simp] theorem State.renameDevices_engState (f : Dev → Dev) (s : State) :
    (s.renameDevices f).engState = s.engState := rfl
@[simp] theorem State.renameDevices_activeValid (f : Dev → Dev) (s : State) :
    (s.renameDevices f).activeValid = s.activeValid := rfl
@[simp] theorem State.renameDevices_activeIdx (f : Dev → Dev) (s : State) :
    (s.renameDevices f).activeIdx = s.activeIdx := rfl
@[simp] theorem State.renameDevices_rxbuf (f : Dev → Dev) (s : State) :
    (s.renameDevices f).rxbuf = s.rxbuf := rfl
@[simp] theorem State.renameDevices_first (f : Dev → Dev) (s : State) :
    (s.renameDevices f).first = s.first := rfl
@[simp] theorem State.renameDevices_hph (f : Dev → Dev) (s : State) :
    (s.renameDevices f).hph = s.hph := rfl
@[simp] theorem State.renameDevices_engLive (f : Dev → Dev) (s : State) :
    (s.renameDevices f).engLive = s.engLive := rfl
@[simp] theorem State.renameDevices_regOvf (f : Dev → Dev) (s : State) :
    (s.renameDevices f).regOvf = s.regOvf := rfl
@[simp] theorem State.renameDevices_regDup (f : Dev → Dev) (s : State) :
    (s.renameDevices f).regDup = s.regDup := rfl
@[simp] theorem State.renameDevices_usr (f : Dev → Dev) (s : State) :
    (s.renameDevices f).usr = s.usr := rfl
@[simp] theorem State.renameDevices_cntLeft (f : Dev → Dev) (s : State) :
    (s.renameDevices f).cntLeft = s.cntLeft := rfl
@[simp] theorem State.renameDevices_armed (f : Dev → Dev) (s : State) :
    (s.renameDevices f).armed = s.armed := rfl
@[simp] theorem State.renameDevices_ovfFlag (f : Dev → Dev) (s : State) :
    (s.renameDevices f).ovfFlag = s.ovfFlag := rfl
@[simp] theorem State.renameDevices_startFlag (f : Dev → Dev) (s : State) :
    (s.renameDevices f).startFlag = s.startFlag := rfl
@[simp] theorem State.renameDevices_stopFlag (f : Dev → Dev) (s : State) :
    (s.renameDevices f).stopFlag = s.stopFlag := rfl
@[simp] theorem State.renameDevices_sdaOe (f : Dev → Dev) (s : State) :
    (s.renameDevices f).sdaOe = s.sdaOe := rfl
@[simp] theorem State.renameDevices_gcnt (f : Dev → Dev) (s : State) :
    (s.renameDevices f).gcnt = s.gcnt := rfl
@[simp] theorem State.renameDevices_gflag (f : Dev → Dev) (s : State) :
    (s.renameDevices f).gflag = s.gflag := rfl
@[simp] theorem State.renameDevices_trace (f : Dev → Dev) (s : State) :
    (s.renameDevices f).trace = s.trace := rfl
@[simp] theorem State.renameDevices_calls (f : Dev → Dev) (s : State) :
    (s.renameDevices f).calls = s.calls := rfl
@[simp] theorem State.renameDevices_fault (f : Dev → Dev) (s : State) :
    (s.renameDevices f).fault = s.fault := rfl
@[simp] theorem State.renameDevices_refused (f : Dev → Dev) (s : State) :
    (s.renameDevices f).refused = s.refused := rfl
@[simp] theorem State.renameDevices_draws (f : Dev → Dev) (s : State) :
    (s.renameDevices f).draws = s.draws := rfl
@[simp] theorem State.renameDevices_result (f : Dev → Dev) (s : State) :
    (s.renameDevices f).result = s.result := rfl
@[simp] theorem State.renameDevices_registry (f : Dev → Dev) (s : State) :
    (s.renameDevices f).registry = s.registry.map fun r => ⟨r.addr, f r.dev⟩ := rfl
@[simp] theorem State.renameDevices_answers (f : Dev → Dev) (s : State) :
    (s.renameDevices f).answers = s.answers.map fun p => (f p.1, p.2) := rfl
@[simp] theorem State.renameDevices_schedule (f : Dev → Dev) (s : State) :
    (s.renameDevices f).schedule = s.schedule.map (Offer.renameDevice f) := rfl
@[simp] theorem State.renameDevices_program (f : Dev → Dev) (s : State) :
    (s.renameDevices f).program = s.program.map (Offer.renameDevice f) := rfl

/-- Renaming keeps addresses, so it keeps what a lookup finds (R112). -/
@[simp] theorem State.renameDevices_lookup (f : Dev → Dev) (s : State) (a : BusAddr) :
    (s.renameDevices f).lookup a = s.lookup a := by
  unfold State.lookup
  rw [State.renameDevices_registry]
  induction s.registry with
  | nil => rfl
  | cons r rest ih => simp only [List.map_cons, firstMatch, ih]

@[simp] theorem State.renameDevices_slotDev? (f : Dev → Dev) (s : State) (i : Nat) :
    (s.renameDevices f).slotDev? i = (s.slotDev? i).map f := by
  simp only [State.slotDev?, State.renameDevices_registry, List.getElem?_map, Option.map_map]
  rfl

/-- The same answer, and the waiting ones renamed (R248): only equality of devices is read. -/
theorem takeAnswer_rename {f : Dev → Dev} (hf : ∀ a b, f a = f b → a = b) (d : Dev)
    (l : List (Dev × Answer)) :
    takeAnswer (f d) (l.map fun p => (f p.1, p.2)) =
      (takeAnswer d l).map fun q => (q.1, q.2.map fun p => (f p.1, p.2)) := by
  induction l with
  | nil => rfl
  | cons x rest ih =>
    obtain ⟨e, a⟩ := x
    by_cases h : e = d
    · subst h; simp [takeAnswer]
    · have h' : f e ≠ f d := fun he => h (hf e d he)
      simp only [List.map_cons, takeAnswer, if_neg h, if_neg h', ih]
      cases takeAnswer d rest <;> rfl

end Sys2Proof.Machine
end

