-- ==== Sys2Proof/Tests/Slice0.lean ====
section
/-! SUPPORT. Tests against 95_test_vectors.md, and a witness for the hypotheses of each obligation. -/

namespace Sys2Proof.Tests

open Sys2Proof.Machine Sys2Proof.Spec

/-! ## WellFormed: an operand that leaves its field is refused (R243, R263 no. 3) -/

theorem test_wellFormed_register_7F : (Instr.register 0x7F ⟨1⟩).wellFormed = true := by decide
theorem test_wellFormed_refuses_register_80 : (Instr.register 0x80 ⟨1⟩).wellFormed = false := by
  decide

/-! ## Decoding: words written out from R84 to R93, as 95_test_vectors.md L2.1 lists them -/

theorem test_decode_overflow_labels :
    decode 0x0000 ⟨0⟩ = some .ovfWaitStart ∧ decode 0x0100 ⟨0⟩ = some .ovfAddr ∧
    decode 0x0200 ⟨0⟩ = some .ovfPrepSend ∧ decode 0x0300 ⟨0⟩ = some .ovfSend ∧
    decode 0x0400 ⟨0⟩ = some .ovfRecvAck ∧ decode 0x0500 ⟨0⟩ = some .ovfPrepRecv ∧
    decode 0x0600 ⟨0⟩ = some .ovfRecv ∧ decode 0x0700 ⟨0⟩ = some .ovfRecvProc ∧
    decode 0x0800 ⟨0⟩ = some (.ovfStop .waitStart) ∧ decode 0x0E00 ⟨0⟩ = some (.ovfStop .recv) ∧
    decode 0x0F00 ⟨0⟩ = some (.ovfStop .recvProc) := by decide

theorem test_decode_events :
    decode 0x1000 ⟨0⟩ = some .startH ∧ decode 0x2200 ⟨0⟩ = some .gresumePrepSend ∧
    decode 0x2500 ⟨0⟩ = some .gresumePrepRecv ∧ decode 0x3000 ⟨0⟩ = some (.bit false) ∧
    decode 0x3001 ⟨0⟩ = some (.bit true) ∧ decode 0x4000 ⟨0⟩ = some .bstart ∧
    decode 0x5000 ⟨0⟩ = some .bstop ∧ decode 0x6000 ⟨0⟩ = some .tick := by decide

theorem test_decode_startup_and_calls :
    decode 0x8000 ⟨0⟩ = some .init ∧ decode 0x9050 ⟨3⟩ = some (.register 0x50 ⟨3⟩) ∧
    decode 0x907F ⟨3⟩ = some (.register 0x7F ⟨3⟩) ∧ decode 0xA021 ⟨0⟩ = some (.lookup 0x21) ∧
    decode 0xB000 ⟨0⟩ = some (.txcall false) ∧ decode 0xB001 ⟨0⟩ = some (.txcall true) ∧
    decode 0xC1FF ⟨0⟩ = some (.rxcall true 0xFF) ∧
    decode 0xC001 ⟨0⟩ = some (.rxcall false 0x01) := by decide

theorem test_decode_primitives :
    decode 0xD000 ⟨0⟩ = some .lpRelSda ∧ decode 0xD1A5 ⟨0⟩ = some (.lpDrive 0xA5) ∧
    decode 0xD201 ⟨0⟩ = some .lpArm1 ∧ decode 0xD208 ⟨0⟩ = some .lpArm8 ∧
    decode 0xD300 ⟨0⟩ = some .lpArmStart ∧ decode 0xD400 ⟨0⟩ = some .lpAckStart ∧
    decode 0xD500 ⟨0⟩ = some .lpClrStop ∧ decode 0xE000 ⟨0⟩ = some .gPrep ∧
    decode 0xE100 ⟨0⟩ = some .gWait := by decide

theorem test_decode_names_the_reserved_words :
    [0x0001, 0x0801, 0x1001, 0x3002, 0x8001, 0x9080, 0xB002, 0xC201].map reservedName =
      List.replicate 8 .reservedBits ∧
    [0x2300, 0x7000, 0xD203, 0xD600, 0xE200, 0xF000, 0xFFFF].map reservedName =
      [.resumeState, .reservedClass, .armCount, .lineSub, .guardSub, .reservedClass,
       .reservedClass] ∧
    ([0x0001, 0x0801, 0x1001, 0x2300, 0x3002, 0x7000, 0x8001, 0x9080, 0xB002, 0xC201, 0xD203,
      0xD600, 0xE200, 0xF000, 0xFFFF].all fun w => decide (decode w ⟨0⟩ = none)) = true := by decide

/-- The table's rows do not overlap (95_test_vectors.md L2.1). -/
theorem test_rows_do_not_overlap : opRows.Pairwise fun r q => r.overlaps q = false := by decide

theorem test_address_bytes :
    [0xA1, 0xA0, 0x42, 0x66, 0x00, 0xFF].map (fun b => (addrOf b, rwOf b)) =
      [(0x50, true), (0x50, false), (0x21, false), (0x33, false), (0x00, false), (0x7F, true)] := by
  decide

/-! ## One step, from the pre-states of 95_test_vectors.md section 0 -/

/-- After INIT, slot 0 holding 0x50 and device 1; the answers of device 1. -/
def live (answers : List Config.Answer) : State :=
  { State.reset with
    engLive := true, registry := [⟨0x50, ⟨1⟩⟩], answers := answers.map fun a => (⟨1⟩, a) }

/-- An overflow pending in state `e`, slot 0 active, the shift register at `u`. -/
def pending (e : EngState) (u : Byte) (answers : List Config.Answer := []) : State :=
  { live answers with
    engState := e, activeValid := true, armed := true, ovfFlag := true, usr := u }

/-- The same state with the guard of section L2.3 present. -/
def guardOn (s : State) : State := { s with cfg := { s.cfg with guardPresent := true } }

/-- The operation gives a next state, of which `p` holds. -/
def gives (i : Instr) (s : State) (p : State → Bool) : Bool :=
  match exec i s with
  | .next t => p t
  | _ => false

/-- The packed views of the next state are these. -/
def views (i : Instr) (s : State) (engw pstat : BitVec 16) : Bool :=
  gives i s fun t => decide (t.engw = engw ∧ t.pstat = pstat)

theorem test_VSM3_stop_mid_receive :
    views (.ovfStop .recv) { pending .recv 0x5A with stopFlag := true } 0x0080 0x0000 = true := by
  decide
theorem test_VSM4_stop_after_address :
    views (.ovfStop .addr) { pending .addr 0xA1 with stopFlag := true } 0x0080 0x0000 = true := by
  decide
theorem test_VSM19_overflow_in_waitStart :
    gives .ovfWaitStart { live [] with armed := true, ovfFlag := true }
      (fun t => decide (t.fault = some (.ovfInWaitStart, 0x0000) ∧ t.engw = 0x0080 ∧
        t.pstat = 0x0A00)) = true := by decide
theorem test_VSM5_read_address_is_acked :
    views .ovfAddr (pending .addr 0xA1) 0x009A 0x0301 = true := by decide
theorem test_VSM7_unknown_address_is_not_acked :
    views .ovfAddr (pending .addr 0x66) 0x0080 0x0000 = true := by decide
theorem test_VSM10_first_byte_is_fetched :
    gives .ovfPrepSend
      { pending .prepSend 0x00 [.reply 0x11 false] with first := true, sdaOe := true }
      (fun t => decide (t.calls = [.tx 0 true 0x11] ∧ t.usr = 0x11 ∧ t.engw = 0x0093 ∧
        t.pstat = 0x0308)) = true := by decide
theorem test_VSM11_guard_holds_the_invocation :
    gives .ovfPrepSend
      (guardOn { pending .prepSend 0x00 [.reply 0x11 false] with
        first := true, sdaOe := true, gcnt := 9, gflag := true })
      (fun t => decide (t.gcnt = 2 ∧ t.gflag = false ∧ t.calls = [] ∧ t.engw = 0x00BA ∧
        t.pstat = 0x0B00)) = true := by decide
theorem test_VSM12_data_line_is_released :
    views .ovfSend { pending .send 0x11 with sdaOe := true } 0x0094 0x0201 = true := by decide
theorem test_VSM13_ack_requests_the_next_byte :
    gives .ovfRecvAck (pending .recvAck 0x22 [.reply 0x33 false])
      (fun t => decide (t.calls = [.tx 0 false 0x33] ∧ t.engw = 0x0093 ∧ t.pstat = 0x0308)) =
      true := by decide
theorem test_VSM14_nack_ends_the_transaction :
    gives .ovfRecvAck (pending .recvAck 0x67 [.reply 0x33 false])
      (fun t => decide (t.calls = [] ∧ t.engw = 0x0080 ∧ t.pstat = 0x0000)) = true := by decide
theorem test_VSM15_armed_for_the_next_byte :
    views .ovfPrepRecv { pending .prepRecv 0x00 with first := true, sdaOe := true } 0x009E 0x0208 =
      true := by decide
theorem test_VSM16_byte_is_stashed :
    views .ovfRecv { pending .recv 0x01 with first := true } 0x019F 0x0301 = true := by decide
theorem test_VSM17_device_continues :
    gives .ovfRecvProc
      { pending .recvProc 0x00 [.reply 0 true] with first := true, sdaOe := true, rxbuf := 0x01 }
      (fun t => decide (t.calls = [.rx 0 true 0x01 true] ∧ t.engw = 0x0196 ∧ t.pstat = 0x0208)) =
      true := by decide
theorem test_VSM18_device_stops :
    gives .ovfRecvProc { pending .recvProc 0x00 [.reply 0 false] with sdaOe := true, rxbuf := 0x02 }
      (fun t => decide (t.calls = [.rx 0 false 0x02 false] ∧ t.engw = 0x0291 ∧
        t.pstat = 0x0208)) = true := by decide
theorem test_VSM1_start_from_waitStart :
    views .startH { live [] with startFlag := true, stopFlag := true, usr := 0x5C } 0x0081 0x0208 =
      true := by decide
theorem test_VSM2_start_mid_send :
    views .startH
      { live [] with
        engState := .send, activeValid := true, usr := 0xF0, sdaOe := true, armed := true,
        cntLeft := 5, startFlag := true } 0x0091 0x0208 = true := by decide
/-- The end of the hold of V-SM11, after its three ticks. -/
theorem test_VSM11_resume_fetches_the_byte :
    gives .gresumePrepSend
      (guardOn { pending .prepSend 0x00 [.reply 0x11 false] with
        first := true, sdaOe := true, hph := .gwait, gcnt := 5, gflag := true })
      (fun t => decide (t.calls = [.tx 0 true 0x11] ∧ t.gcnt = 5 ∧ t.engw = 0x0093 ∧
        t.pstat = 0x0308)) = true := by decide
/-- The example of R134. -/
theorem test_R134_resume_arms_for_a_byte :
    gives .gresumePrepRecv
      (guardOn { pending .prepRecv 0x00 with hph := .gwait, gflag := true })
      (fun t => decide (t.engState = .recv ∧ t.hph = .idle ∧ t.pstat = 0x0208)) = true := by decide
theorem test_VB1_slave_drives_the_bit :
    gives (.bit true)
      { live [] with
        engState := .send, activeValid := true, usr := 0x11, sdaOe := true, armed := true,
        cntLeft := 8 }
      (fun t => decide (t.trace = [.bit true false false true] ∧ t.usr = 0x22 ∧
        t.pstat = 0x0307)) = true := by decide
theorem test_VB3_last_bit_overflows :
    gives (.bit true)
      { live [] with
        engState := .recv, activeValid := true, usr := 0x12, armed := true, cntLeft := 1 }
      (fun t => decide (t.usr = 0x25 ∧ t.pstat = 0x0A00)) = true := by decide
theorem test_VB5_start_is_flagged :
    gives .bstart (live []) (fun t => decide (t.trace = [.start] ∧ t.pstat = 0x1000)) = true := by
  decide
theorem test_VB7_no_start_while_the_slave_drives_low :
    (match exec .bstart
        { live [] with
          engState := .send, usr := 0x07, sdaOe := true, armed := true, cntLeft := 5 } with
      | .refused r => decide (r = .notEnabled 0x4000)
      | _ => false) = true := by decide
theorem test_VB9_stop_is_flagged :
    gives .bstop
      { live [] with
        engState := .recv, activeValid := true, armed := true, cntLeft := 5, usr := 0x05 }
      (fun t => decide (t.trace = [.stop] ∧ t.engState = .recv ∧ t.pstat = 0x0605)) = true := by
  decide
theorem test_VG2_tick_reaches_the_top :
    gives .tick (guardOn { live [] with gcnt := 4 }) (fun t => decide (t.gcnt = 5 ∧ t.gflag = true)) =
      true := by decide
theorem test_VG4_tick_wraps :
    gives .tick (guardOn { live [] with gcnt := 15, gflag := true })
      (fun t => decide (t.gcnt = 0 ∧ t.gflag = true)) = true := by decide
theorem test_VI2_second_init_is_refused :
    gives .init (live []) (fun t => decide (t = { live [] with
      refused := some (.initTwice, some 0x8000) })) = true := by decide
/-- V-I1; the bits of CNT_LEFT are "any". -/
theorem test_VI1_init :
    gives .init { State.reset with registry := [⟨0x50, ⟨1⟩⟩] }
      (fun t => decide (t.engw = 0x0080 ∧ t.armed = false ∧ t.sdaOe = false ∧ t.startFlag = false ∧
        t.stopFlag = false ∧ t.ovfFlag = false ∧ t.regCount = 1)) = true := by decide
theorem test_VR3_duplicate_is_recorded :
    gives (.register 0x50 ⟨2⟩) { State.reset with registry := [⟨0x50, ⟨1⟩⟩] }
      (fun t => decide (t.regCount = 2 ∧ t.regDup = true ∧ t.lookup 0x50 = some 0)) = true := by
  decide
theorem test_VR5_wide_address_is_refused :
    gives (.register 0x80 ⟨2⟩) State.reset
      (fun t => decide (t = { State.reset with refused := some (.addrWidth, none) })) = true := by
  decide
theorem test_VR6_lookup :
    [0x21, 0x22].map
      ({ live [] with registry := [⟨0x50, ⟨1⟩⟩, ⟨0x21, ⟨2⟩⟩] } : State).lookup = [some 1, none] := by
  decide
theorem test_R241_transmit_call :
    gives (.txcall true) (pending .prepSend 0x00 [.reply 0x11 false])
      (fun t => decide (t.calls = [.tx 0 true 0x11] ∧ t.result = .byte 0x11)) = true := by decide
theorem test_R242_receive_call :
    gives (.rxcall true 0x01) (pending .recvProc 0x00 [.reply 0 true])
      (fun t => decide (t.calls = [.rx 0 true 0x01 true] ∧ t.result = .more true)) = true := by decide
/-- The stall of R244: no entry in CALLS, and HPH = STALLED. -/
theorem test_R244_stalled_call :
    gives (.txcall true) (pending .prepSend 0x00 [.stall])
      (fun t => decide (t.hph = .stalled ∧ t.ovfFlag = true ∧ t.calls = [])) = true := by decide
theorem test_VLP1_release :
    gives .lpRelSda { pending .send 0x11 with sdaOe := true }
      (fun t => decide (t.sdaOe = false ∧ t.sOut = true)) = true := by decide
theorem test_VLP2_release_without_the_hold :
    gives .lpRelSda { live [] with sdaOe := true }
      (fun t => decide (t.fault = some (.spuriousLine, 0xD000) ∧ t.sdaOe = true)) = true := by decide
theorem test_VLP4_drive :
    gives (.lpDrive 0x80) (pending .send 0x11)
      (fun t => decide (t.usr = 0x80 ∧ t.sdaOe = true ∧ t.sOut = true)) = true := by decide
theorem test_VLP7_arm1 :
    gives .lpArm1 (pending .addr 0x00)
      (fun t => decide (t.cntLeft = 1 ∧ t.ovfFlag = false ∧ t.armed = true)) = true := by decide
theorem test_VLP6_arm8_under_the_start_hold :
    gives .lpArm8 { live [] with startFlag := true }
      (fun t => decide (t.cntLeft = 8 ∧ t.armed = true ∧ t.sclHeld = true)) = true := by decide
theorem test_VLP9_armStart :
    gives .lpArmStart { pending .send 0x11 with sdaOe := true, stopFlag := true }
      (fun t => decide (t.pstat = 0x0000)) = true := by decide
theorem test_VLP10_ackStart :
    gives .lpAckStart { live [] with startFlag := true } (fun t => decide (t.pstat = 0x0000)) = true := by
  decide
theorem test_VLP11_clrStop :
    gives .lpClrStop { live [] with stopFlag := true } (fun t => decide (t.pstat = 0x0000)) = true := by
  decide
theorem test_VG1_prepare :
    gives .gPrep (guardOn { live [] with gcnt := 9, gflag := true })
      (fun t => decide (t.gcnt = 2 ∧ t.gflag = false)) = true := by decide
theorem test_VG7_wait_holds :
    gives .gWait (guardOn { live [] with gcnt := 2 }) (fun t => decide (t.hph = .gwait)) = true := by
  decide

/-! ## Offers -/

/-- `register(0x80, W)` listed by a program is refused, and registers nothing (V-R5, R243). -/
theorem test_program_wide_address_is_refused :
    (match step (startProgram Config.vectorParams [(0x80, ⟨⟨2⟩, rfl⟩)] [] []) with
      | .next t => decide (t.refused = some (.addrWidth, none) ∧ t.registry = [])
      | _ => false) = true := by decide

/-- No agent has a line primitive as its step (R200). -/
theorem test_line_primitive_is_no_agents_step :
    (match step { pending .send 0x11 with schedule := [.word 0xD000 ⟨0⟩] } with
      | .refused r => decide (r = .notEnabled 0xD000)
      | _ => false) = true := by decide

/-! ## Witnesses: states and operands that meet the hypotheses of each obligation -/

theorem wit_DecodeOfEncodeIsTheOperation :
    (Instr.register 127 ⟨5⟩).wellFormed = true ∧ (Instr.rxcall true 0xFF).wellFormed = true := by decide

theorem wit_EncodeOfDecodeIsTheWord :
    decode 0x907F ⟨5⟩ = some (.register 127 ⟨5⟩) ∧ decode 0x0F00 ⟨0⟩ = some (.ovfStop .recvProc) := by
  decide

/-- One state for each of its clauses: an agent's word, a call, a micro-operation's own word, and a
micro-operation that an agent offers. -/
theorem wit_StepRunsTheScheduledOperation :
    (let s := { live [] with schedule := [.word 0x4000 ⟨0⟩] }
     s.fault = none ∧ s.schedule = .word 0x4000 ⟨0⟩ :: [] ∧ decode 0x4000 ⟨0⟩ = some .bstart ∧
       agentOf .bstart ≠ .microOperation) ∧
    ({ live [] with schedule := [.registerCall 128 ⟨2⟩] } : State).fault = none ∧
    (let s := { live [] with schedule := [.micro 0xD208] }
     s.schedule = .micro 0xD208 :: [] ∧ decode 0xD208 ⟨0⟩ = some .lpArm8 ∧
       agentOf .lpArm8 = .microOperation) ∧
    (let s := { live [] with schedule := [.word 0xD208 ⟨0⟩] }
     s.schedule = .word 0xD208 ⟨0⟩ :: [] ∧ s.cfg.Wf) := by decide

/-- One state for each of its clauses: an engine step, a program's operation, a micro-operation and a call
that it lists, nothing, and nothing after a stall. -/
theorem wit_StepFollowsTheEagerSchedule :
    (let s := pending .addr 0xA1
     s.fault = none ∧ s.schedule = [] ∧ s.engineLabel = some 0x0100 ∧
       decode 0x0100 ⟨0⟩ = some .ovfAddr) ∧
    (let s := { live [] with program := [.word 0x3001 ⟨0⟩] }
     s.fault = none ∧ s.schedule = [] ∧ s.engineLabel = none ∧
       s.program = .word 0x3001 ⟨0⟩ :: [] ∧ decode 0x3001 ⟨0⟩ = some (.bit true) ∧
       agentOf (.bit true) ≠ .microOperation) ∧
    (let s := { live [] with program := [.word 0xE000 ⟨0⟩] }
     s.engineLabel = none ∧ s.cfg.Wf ∧ decode 0xE000 ⟨0⟩ = some .gPrep ∧
       agentOf .gPrep = .microOperation) ∧
    ({ State.reset with program := [.registerCall 128 ⟨2⟩] } : State).engineLabel = none ∧
    (let s := live []
     s.fault = none ∧ s.schedule = [] ∧ s.engineLabel = none ∧ s.program = []) ∧
    (let s := { pending .prepSend 0x00 with hph := .stalled }
     s.schedule = [] ∧ s.engineLabel = none ∧ s.program = []) := by decide

/-- One word for each reserved encoding of R97. -/
theorem wit_ReservedWordsAreRefused :
    let s := { live [] with schedule := [.word 0xD203 ⟨0⟩] }
    s.Ready ∧ s.schedule = .word 0xD203 ⟨0⟩ :: [] := by decide

theorem wit_ReservedWords :
    ([0x7000, 0xFFFF, 0x0801, 0x1001, 0x2300, 0x3002, 0x9080, 0xC201, 0xD203, 0xD600, 0xE200].all
      fun w => decide (ReservedWord w)) = true := by decide
theorem wit_ReservedWords_not : ¬ ReservedWord 0xE100 := by decide

theorem wit_EngineLabelNamesTheEnabledStep :
    ({ live [] with startFlag := true } : State).StartEnabled ∧
    ({ pending .recv 0x00 with stopFlag := true } : State).OvfEnabled ∧
    (∀ e, ({ pending e 0x00 with hph := .gwait, gflag := true } : State).ResumeEnabled) := by
  refine ⟨by decide, by decide, ?_⟩
  intro e
  exact ⟨rfl, rfl, rfl⟩

theorem wit_EngineOperationRunsExactlyUnderItsLabel :
    (pending .addr 0xA1).Ready ∧ agentOf .ovfAddr = .engine ∧
    (pending .addr 0xA1).engineLabel = some (encode .ovfAddr) ∧
    (pending .addr 0xA1).engineLabel ≠ some (encode .ovfRecv) := by decide

/-- The lowest and the highest table word. -/
theorem wit_FetchWordRunsThatOperation :
    State.reset.fault = none ∧ State.reset.cfg.Wf ∧
    decodeTableWord 16 0x0000 = some .ovfWaitStart ∧ agentOf .ovfWaitStart = .engine ∧
    decodeTableWord 16 0xE100 = some .gWait := by decide

theorem wit_FaultedStateHasNoStep :
    ({ live [] with fault := some (.badArm, 0x3001) } : State).fault = some (.badArm, 0x3001) := by
  decide

/-- V-G10 and V-G11, and a capacity of 0. -/
theorem wit_BadConfigurationIsRefusedBeforeAnyStep :
    ¬ ({ Config.vectorParams with guardPreload := 5 } : Config.Params).Wf ∧
    ¬ ({ Config.vectorParams with guardTop := 16 } : Config.Params).Wf ∧
    ¬ ({ Config.vectorParams with regCapacity := 0 } : Config.Params).Wf ∧
    State.reset.fault = none := by decide

theorem wit_OverflowAfterStopEntersWaitStart :
    let s := { pending .recv 0x5A with stopFlag := true }
    s.Ready ∧ s.OvfEnabled ∧ s.stopFlag = true := by decide

theorem wit_OverflowInWaitStartFaults :
    let s := { live [] with armed := true, ovfFlag := true }
    s.Ready ∧ s.OvfEnabled ∧ s.stopFlag = false ∧ s.engState = .waitStart := by decide

/-- A match for a read and for a write, and no match. -/
theorem wit_AddressByteIsDecodedAgainstTheRegistry :
    (pending .addr 0xA1).Ready ∧ (pending .addr 0xA1).OvfEnabled ∧
    (pending .addr 0xA1).stopFlag = false ∧ (pending .addr 0xA1).engState = .addr ∧
    (pending .addr 0xA1).lookup 0x50 = some 0 ∧ (pending .addr 0xA0).lookup 0x50 = some 0 ∧
    (pending .addr 0x66).lookup 0x33 = none := by decide

/-- A state whose device 1 is active, whose next answer is `a`, in `e`. -/
theorem answer_is_drawn (e : EngState) (a : Config.Answer) :
    ActiveDevice (pending e 0x00 [a]) ⟨1⟩ ∧
    (pending e 0x00 [a]).drawAnswer ⟨1⟩ = (a, pending e 0x00 []) := by
  refine ⟨⟨rfl, rfl⟩, rfl⟩

theorem wit_PrepSendFetchesTheByteOrWaits :
    (let s := pending .prepSend 0x00 [.reply 0x11 false]
     s.Ready ∧ s.OvfEnabled ∧ s.stopFlag = false ∧ s.engState = .prepSend ∧
       s.cfg.guardPresent = false ∧ ActiveDevice s ⟨1⟩) ∧
    (∃ v m t, (pending .prepSend 0x00 [.reply 0x11 false]).drawAnswer ⟨1⟩ = (.reply v m, t)) ∧
    (∃ t, (pending .prepSend 0x00 [.stall]).drawAnswer ⟨1⟩ = (.stall, t)) ∧
    (guardOn (pending .prepSend 0x00)).OvfEnabled ∧ (guardOn (pending .prepSend 0x00)).Ready ∧
    (guardOn (pending .prepSend 0x00)).cfg.guardPresent = true ∧
    ({ pending .prepSend 0x00 with activeValid := false } : State).OvfEnabled :=
  ⟨by decide, ⟨_, _, _, (answer_is_drawn _ _).2⟩, ⟨_, (answer_is_drawn _ _).2⟩, by decide, by decide,
    by decide, by decide⟩

theorem wit_SendReleasesDataLineForTheMastersAck :
    let s := { pending .send 0x11 with sdaOe := true }
    s.Ready ∧ s.OvfEnabled ∧ s.stopFlag = false ∧ s.engState = .send := by decide

theorem wit_MastersAckContinuesAndNackEnds :
    (let s := pending .recvAck 0x22 [.reply 0x33 false]
     s.Ready ∧ s.OvfEnabled ∧ s.stopFlag = false ∧ s.engState = .recvAck ∧
       s.usr.getLsbD 0 = false ∧ s.cfg.guardPresent = false ∧ ActiveDevice s ⟨1⟩) ∧
    (pending .recvAck 0x67).usr.getLsbD 0 = true ∧
    (guardOn (pending .recvAck 0x22)).cfg.guardPresent = true ∧
    ({ pending .recvAck 0x22 with activeValid := false } : State).OvfEnabled ∧
    (∃ v m t, (pending .recvAck 0x00 [.reply 0x33 false]).drawAnswer ⟨1⟩ = (.reply v m, t)) ∧
    (∃ t, (pending .recvAck 0x00 [.stall]).drawAnswer ⟨1⟩ = (.stall, t)) :=
  ⟨by decide, by decide, by decide, by decide, ⟨_, _, _, (answer_is_drawn _ _).2⟩,
    ⟨_, (answer_is_drawn _ _).2⟩⟩

theorem wit_PrepRecvArmsForTheNextByteOrWaits :
    (let s := pending .prepRecv 0x00
     s.Ready ∧ s.OvfEnabled ∧ s.stopFlag = false ∧ s.engState = .prepRecv ∧
       s.cfg.guardPresent = false) ∧
    (let s := guardOn (pending .prepRecv 0x00)
     s.Ready ∧ s.OvfEnabled ∧ s.cfg.guardPresent = true) := by decide

theorem wit_ReceivedByteIsStashedAndAcked :
    let s := pending .recv 0x01
    s.Ready ∧ s.OvfEnabled ∧ s.stopFlag = false ∧ s.engState = .recv := by decide

theorem wit_StashedByteGoesToTheActiveDevice :
    (let s := pending .recvProc 0x00 [.reply 0 true]
     s.Ready ∧ s.OvfEnabled ∧ s.stopFlag = false ∧ s.engState = .recvProc ∧ ActiveDevice s ⟨1⟩ ∧
       s.cfg.guardPresent = false) ∧
    (∃ v t, (entered (pending .recvProc 0x00 [.reply 0 true])).drawAnswer ⟨1⟩ = (.reply v true, t)) ∧
    (∃ v t, (entered (guardOn (pending .recvProc 0x00 [.reply 0 true]))).drawAnswer ⟨1⟩ =
      (.reply v true, t)) ∧
    (∃ v t, (entered (pending .recvProc 0x00 [.reply 0 false])).drawAnswer ⟨1⟩ =
      (.reply v false, t)) ∧
    (∃ t, (entered (pending .recvProc 0x00 [.stall])).drawAnswer ⟨1⟩ = (.stall, t)) ∧
    ({ pending .recvProc 0x00 with activeValid := false } : State).OvfEnabled :=
  ⟨by decide, ⟨_, _, rfl⟩, ⟨_, _, rfl⟩, ⟨_, _, rfl⟩, ⟨_, rfl⟩, by decide⟩

/-- No active slave, and the first slot that is not filled. -/
theorem wit_CallOfNoFilledSlotFaults :
    (let s := { pending .recvProc 0x00 with activeValid := false }
     s.Ready ∧ s.activeValid = false ∧ s.OvfEnabled ∧ s.stopFlag = false ∧ s.engState = .recvProc) ∧
    (let s := { pending .prepSend 0x00 with activeIdx := 1 }
     s.Ready ∧ s.slotDev? s.activeIdx = none ∧ s.OvfEnabled ∧ s.engState = .prepSend ∧
       s.cfg.guardPresent = false) ∧
    (let s := { pending .recvAck 0x00 with activeIdx := 1 }
     s.slotDev? s.activeIdx = none ∧ s.OvfEnabled ∧ s.usr.getLsbD 0 = false) ∧
    (let s := { pending .prepSend 0x00 with activeIdx := 1, hph := .gwait, gflag := true }
     s.Ready ∧ s.slotDev? s.activeIdx = none ∧ s.ResumeEnabled) := by decide

theorem wit_StartHandlerRearmsForAnAddress :
    let s := { live [] with engState := .send, armed := true, cntLeft := 5, startFlag := true }
    s.Ready ∧ s.StartEnabled := by decide

theorem wit_ResumeContinuesTheHeldInvocation :
    (let s := { pending .prepSend 0x00 [.reply 0x11 false] with hph := .gwait, gflag := true }
     s.Ready ∧ s.ResumeEnabled ∧ s.ovfFlag = true ∧ s.engState = .prepSend ∧ ActiveDevice s ⟨1⟩) ∧
    (let s := { pending .prepSend 0x00 with hph := .gwait, gflag := true, activeValid := false }
     s.Ready ∧ s.ResumeEnabled) ∧
    (let s := { pending .prepRecv 0x00 with hph := .gwait, gflag := true }
     s.Ready ∧ s.ResumeEnabled ∧ s.engState = .prepRecv) ∧
    (let s := { pending .recv 0x00 with hph := .gwait, gflag := true }
     s.Ready ∧ s.ResumeEnabled ∧ s.engState ≠ .prepSend ∧ s.engState ≠ .prepRecv ∧
       s.schedule = []) ∧
    (∃ v m t, ({ pending .prepSend 0x00 [.reply 0x11 false] with
      hph := .gwait, gflag := true } : State).drawAnswer ⟨1⟩ = (.reply v m, t)) ∧
    (∃ t, ({ pending .prepSend 0x00 [.stall] with
      hph := .gwait, gflag := true } : State).drawAnswer ⟨1⟩ = (.stall, t)) :=
  ⟨by decide, by decide, by decide, by decide, ⟨_, _, _, rfl⟩, ⟨_, rfl⟩⟩

/-- SCL held; armed with bits left, the last one too; not armed; armed with none left. -/
theorem wit_BusBitSamplesAndShifts :
    ((pending .addr 0x00).Ready ∧ (pending .addr 0x00).sclHeld = true) ∧
    (let s := { live [] with armed := true, cntLeft := 1 }
     s.Ready ∧ s.sclHeld = false ∧ s.engLive = true ∧ s.armed = true ∧ s.cntLeft ≠ 0) ∧
    (let s := live []
     s.Ready ∧ s.sclHeld = false ∧ ¬ (s.engLive = true ∧ s.armed = true)) ∧
    (let s := { live [] with armed := true }
     s.Ready ∧ s.sclHeld = false ∧ s.engLive = true ∧ s.armed = true ∧ s.cntLeft = 0) := by decide

theorem wit_StartConditionSetsStartFlag :
    ((live []).Ready ∧ (live []).ovfFlag = false ∧ (live []).sOut = true) ∧
    (let s := { State.reset with ovfFlag := true }
     s.Ready ∧ s.engLive = false ∧ s.sOut = true) ∧
    (let s := { live [] with sdaOe := true, usr := 0x07 }
     s.Ready ∧ s.sOut = false) ∧
    ((pending .recv 0x00).Ready ∧ (pending .recv 0x00).ovfFlag = true) := by decide

theorem wit_StopConditionSetsStopFlag :
    ((live []).Ready ∧ (live []).ovfFlag = false ∧ (live []).sOut = true) ∧
    (pending .recv 0x00).Ready ∧ (pending .recv 0x00).ovfFlag = true := by decide

theorem wit_BusTrafficBeforeInitChangesOnlyTheTrace :
    State.reset.Ready ∧ State.reset.engLive = false := by decide

theorem wit_EightBitsShiftTheMastersByteIn :
    let s := { live [] with engState := .addr, armed := true, cntLeft := 8 }
    s.Ready ∧ s.engLive = true ∧ s.armed = true ∧ s.cntLeft = 8 ∧ s.ovfFlag = false ∧
      s.startFlag = false ∧ s.sdaOe = false := by decide

theorem wit_EightBitsShiftTheSlavesByteOut :
    let s := { live [] with engState := .send, armed := true, cntLeft := 8, sdaOe := true, usr := 0x11 }
    s.Ready ∧ s.engLive = true ∧ s.armed = true ∧ s.cntLeft = 8 ∧ s.ovfFlag = false ∧
      s.startFlag = false ∧ s.sdaOe = true := by decide

/-- An address no slot holds, and one that slot 0 holds. -/
theorem wit_AddressPhaseAcksExactlyRegisteredAddresses :
    let s := { live [] with engState := .addr, armed := true, cntLeft := 8 }
    s.Ready ∧ s.engLive = true ∧ s.hph = .idle ∧ s.engState = .addr ∧ s.armed = true ∧
      s.cntLeft = 8 ∧ s.ovfFlag = false ∧ s.startFlag = false ∧ s.stopFlag = false ∧
      s.sdaOe = false ∧ s.lookup (addrOf 0x66) = none ∧ s.lookup (addrOf 0xA1) = some 0 := by decide

/-- Two states alike on the lines, and apart elsewhere; a bit is enabled in both. -/
theorem wit_MasterSeesOnlyTheLines :
    (let s := { live [] with engState := .recv, armed := true, cntLeft := 1 }
     let t := { s with engState := .addr, rxbuf := 0x42, activeIdx := 3 }
     s.Ready ∧ t.Ready ∧ s.usr = t.usr ∧ s.cntLeft = t.cntLeft ∧
       gives (.bit true) s (fun u => decide (u.fault = none)) = true ∧
       gives (.bit true) t (fun _ => true) = true) := by decide

theorem wit_TickCountsAndLatchesTheSafeWindow :
    (guardOn (live [])).Ready ∧ (guardOn (live [])).cfg.guardPresent = true ∧ (live []).Ready ∧
    (live []).cfg.guardPresent = false := by decide

theorem wit_GuardPrepareAndWait :
    ((live []).Ready ∧ (live []).cfg.guardPresent = false) ∧
    (let s := { guardOn (live []) with gflag := true }
     s.Ready ∧ s.cfg.guardPresent = true ∧ s.gflag = true) ∧
    (guardOn (live [])).gflag = false := by decide

/-- Two, three and four ticks of the three of L2.3. -/
theorem wit_GuardWaitEndsAfterExactlyGuardTicks :
    (guardOn (live [])).cfg.Wf ∧ (guardOn (live [])).cfg.guardPresent = true ∧
    ¬ (guardOn (live [])).cfg.guardTicks ≤ 2 ∧ (guardOn (live [])).cfg.guardTicks ≤ 3 ∧
    (guardOn (live [])).cfg.guardTicks ≤ 4 := by decide

theorem wit_InitResetsTheEngineAndKeepsTheRegistry :
    (State.reset.Ready ∧ State.reset.engLive = false) ∧
    (live []).Ready ∧ (live []).engLive = true := by decide

/-- A type Dev of two references, the second of them and the first identifier that is none. -/
theorem wit_RegisterAppendsDropsOrIsRefused_dev :
    let p := { Config.vectorParams with devs := some [⟨1⟩, ⟨2⟩] }
    (State.powerOn p).Ready ∧ p.hasDev ⟨2⟩ = true ∧ p.hasDev ⟨3⟩ = false ∧
      State.reset.cfg.hasDev ⟨3⟩ = true := by decide

/-- The last address of seven bits and the first of eight; a table with room and a full one. -/
theorem wit_RegisterAppendsDropsOrIsRefused :
    (State.reset.Ready ∧ 127 < 128 ∧ State.reset.engLive = false ∧
      State.reset.registry.length ≠ State.reset.cfg.regCapacity) ∧
    (let s := { State.reset with registry := List.replicate 4 ⟨0x50, ⟨1⟩⟩ }
     s.Ready ∧ s.engLive = false ∧ s.registry.length = s.cfg.regCapacity) ∧
    ((live []).Ready ∧ (live []).engLive = true) ∧ 128 ≤ 128 := by decide

theorem wit_LookupReturnsTheFirstExactMatch : (live []).Ready := by decide

/-- A running engine that is offered a late registration. -/
theorem wit_RegistryIsConstantAfterInit :
    let s := { live [] with schedule := [.word 0x9011 ⟨2⟩] }
    s.engLive = true ∧ ∃ t, step s = .next t := ⟨rfl, _, rfl⟩

theorem wit_CapabilityCallsRecordOrStall :
    ((pending .prepSend 0x00 [.reply 0x11 true]).Ready ∧
      ActiveDevice (pending .prepSend 0x00 [.reply 0x11 true]) ⟨1⟩) ∧
    (∃ v m t, (pending .prepSend 0x00 [.reply 0x11 true]).drawAnswer ⟨1⟩ = (.reply v m, t)) ∧
    (∃ t, (pending .prepSend 0x00 [.stall]).drawAnswer ⟨1⟩ = (.stall, t)) :=
  ⟨by decide, ⟨_, _, _, (answer_is_drawn _ _).2⟩, ⟨_, (answer_is_drawn _ _).2⟩⟩

/-- Device 1 has an answer waiting behind another device's; device 3 has none. -/
theorem wit_DeviceAnswersComeInCallOrder :
    let l : List (Dev × Config.Answer) := [(⟨2⟩, .stall), (⟨1⟩, .reply 0x11 true)]
    (l.filter fun p => decide (p.1 = ⟨1⟩)) = (⟨1⟩, .reply 0x11 true) :: [] ∧
    (l.filter fun p => decide (p.1 = ⟨3⟩)) = [] := by decide

/-- A step with a call, and the decode that sets FIRST. -/
theorem wit_CallsGoToTheActiveSlotAndClearFirst :
    (agentOf .ovfPrepSend ≠ .microOperation ∧
      ∃ t, exec .ovfPrepSend (pending .prepSend 0x00 [.reply 0x11 false]) = .next t) ∧
    (pending .addr 0xA1).first = false ∧
    gives .ovfAddr (pending .addr 0xA1) (fun t => t.first) = true :=
  ⟨⟨by decide, _, rfl⟩, by decide, by decide⟩

theorem wit_StalledEngineOnlyTicks :
    let s := { pending .prepSend 0x00 with hph := .stalled }
    s.Ready ∧ s.engLive = true ∧ s.hph = .stalled ∧ s.ovfFlag = true ∧
      agentOf .startH = .engine ∧ agentOf .bstop = .master := by decide

theorem wit_LinePrimitivesUnderTheClockHold :
    ((pending .send 0x11).Ready ∧ (pending .send 0x11).sclHeld = true) ∧
    ({ live [] with startFlag := true } : State).sclHeld = true := by decide

theorem wit_DataLineChangeWithoutTheHoldFaults :
    (live []).Ready ∧ (live []).sclHeld = false := by decide

theorem wit_ArmAndFlagPrimitives : (live []).Ready ∧ (3 : Nat) ≠ 1 ∧ (3 : Nat) ≠ 8 := by decide

theorem wit_OnlyHandlersAndStartupWriteTheEngineRecord :
    agentOf (.bit true) = .master ∧ agentOf .tick = .guardCounter ∧
    (∃ t, exec (.bit true) (live []) = .next t) ∧ ∃ t, exec .tick (live []) = .next t :=
  ⟨by decide, by decide, ⟨_, rfl⟩, ⟨_, rfl⟩⟩

theorem wit_OnlyTheStartHandlerLeavesWaitStart :
    let s := { live [] with startFlag := true }
    agentOf .startH ≠ .microOperation ∧ s.engState = .waitStart ∧
      gives .startH s (fun t => decide (t.engState ≠ .waitStart)) = true := by decide

/-- A step that meets every premise of its clauses: a refusal stands, and both flags are set. -/
theorem wit_RecordsGrowAndStick :
    let s := { live [] with
      refused := some (.invalidOp, none), regOvf := true, regDup := true,
      schedule := [.word 0x4000 ⟨0⟩] }
    s.refused ≠ none ∧ s.regOvf = true ∧ s.regDup = true ∧ ∃ t, step s = .next t :=
  ⟨by decide, rfl, rfl, _, rfl⟩

theorem wit_TickLeavesHandlersAndLinesAlone :
    let s := { guardOn (pending .prepSend 0x00) with hph := .gwait, gflag := true }
    s.cfg.Wf ∧ s.ResumeEnabled ∧ ∃ t, exec .tick s = .next t := ⟨by decide, by decide, _, rfl⟩

/-- Each field that is any at power-on, at the highest value of its width. -/
theorem wit_InvariantHoldsAtPowerOn :
    let s := { State.reset with
      engState := .recvProc, activeIdx := 3, cntLeft := 8, gcnt := 15, armed := true, ovfFlag := true }
    s.hph = .idle ∧ s.engLive = false ∧ s.registry = [] ∧ s.fault = none ∧ s.schedule = [] ∧
      s.program = [] ∧ s.activeIdx < 2 ^ s.cfg.slotW ∧ s.cntLeft ≤ 8 ∧
      s.gcnt < 2 ^ s.cfg.guardCntW := by decide

/-- The invariant holds in a state with a decode pending, and that decode is a step. -/
theorem wit_InvariantIsKeptByEveryStep :
    (pending .addr 0xA1).Inv ∧ ∃ t, step (pending .addr 0xA1) = .next t := ⟨by decide, _, rfl⟩

theorem wit_NoFaultIsReachable : (pending .recvProc 0x00 [.reply 0 true]).Inv := by decide

theorem wit_EnabledHandlersCompleteAndReleaseTheClock :
    (pending .send 0x11).Inv ∧
    ((pending .send 0x11).cfg.Wf ∧ (pending .send 0x11).schedule = [] ∧
      (pending .send 0x11).engineLabel = some 0x0300) := ⟨by decide, by decide⟩

/-- CNT_LEFT at its highest legal value, and ACTIVE_IDX and GCNT at theirs. -/
theorem wit_FieldWidthsAreKeptByEveryStep :
    let s := { live [] with cntLeft := 8, activeIdx := 3, gcnt := 15, program := [.word 0x6000 ⟨0⟩] }
    s.WidthsOk ∧ ∃ t, step s = .next t := ⟨by decide, _, rfl⟩

/-- The first address of eight bits and the last of seven. -/
theorem wit_ProgramOffersTheOperationItLists : Config.vectorParams.Wf ∧ 128 ≤ 128 ∧ 127 < 128 := by
  decide

/-- A renaming that is one to one and moves every device. -/
theorem wit_DeviceReferencesAreOpaque :
    ∀ a b : Dev, (fun d : Dev => Dev.mk (d.id + 1)) a = (fun d : Dev => Dev.mk (d.id + 1)) b → a = b := by
  intro a b h
  cases a; cases b
  simpa using h

end Sys2Proof.Tests
end

section
/-! The word of a decoded operation: each row's operation encodes back to its row's pattern with the
operand bits of the word. -/

namespace Sys2Proof

/-- A field of a word, put back where it was read, is the word under the field's mask. -/
theorem extractLsb'_shiftLeft_eq_and (w : Op16) (k n : Nat) :
    (w.extractLsb' k n).setWidth 16 <<< k = w &&& (BitVec.allOnes n).setWidth 16 <<< k := by
  ext j hj
  by_cases h : j < k
  · simp [h]
  · have hkj : k + (j - k) = j := by omega
    simp [h, hj, hkj, Bool.and_comm]

theorem lowField_eq_and (w : Op16) (n : Nat) :
    (w.extractLsb' 0 n).setWidth 16 = w &&& (BitVec.allOnes n).setWidth 16 := by
  simpa using extractLsb'_shiftLeft_eq_and w 0 n

/-- A one-bit field is a field of one bit. -/
theorem bitField_getElem (w : Op16) (k : Nat) (hk : k < 16) :
    bitField w[k] = (w.extractLsb' k 1).setWidth 16 := by
  ext j hj
  cases h : w[k] <;> cases j <;> simp [bitField, h, hk]

theorem stateCode_stateOf (c : BitVec 3) : stateCode (stateOf c) = c := by
  revert c; decide

/-- The word of a row's operation is the row's pattern with the bits the row's mask leaves free. -/
theorem encode_build (w : Op16) (d : Dev) :
    ∀ r ∈ opRows, encode (r.build w d) = r.pattern ||| (w &&& ~~~r.mask) := by
  have hovf : ∀ r ∈ ovfRows, encode (r.build w d) = r.pattern ||| (w &&& ~~~r.mask) := by
    simp [ovfRows, encode, stateCode_stateOf, extractLsb'_shiftLeft_eq_and]
  have hevent : ∀ r ∈ eventRows, encode (r.build w d) = r.pattern ||| (w &&& ~~~r.mask) := by
    simp [eventRows, encode, bitField_getElem, lowField_eq_and]
  have hcall : ∀ r ∈ callRows, encode (r.build w d) = r.pattern ||| (w &&& ~~~r.mask) := by
    simp [callRows, encode, bitField_getElem, lowField_eq_and, extractLsb'_shiftLeft_eq_and,
      -BitVec.extractLsb'_toNat, BitVec.or_assoc, ← BitVec.and_or_distrib_left]
  have hprim : ∀ r ∈ primitiveRows, encode (r.build w d) = r.pattern ||| (w &&& ~~~r.mask) := by
    simp [primitiveRows, encode, lowField_eq_and]
  intro r hr
  simp only [opRows, List.mem_append] at hr
  obtain ((h | h) | h) | h := hr
  · exact hovf r h
  · exact hevent r h
  · exact hcall r h
  · exact hprim r h

/-- A word that decodes is the operation of a row it matches. -/
theorem decode_cases {w : Op16} {d : Dev} {i : Instr} (h : decode w d = some i) :
    ∃ r ∈ opRows, w &&& r.mask = r.pattern ∧ r.build w d = i := by
  unfold decode decodeOrName at h
  cases hr : rowOf w with
  | none => simp [hr] at h
  | some r =>
    have hm : r.build w d = i := by simpa [hr] using h
    exact ⟨r, List.mem_of_find?_eq_some hr, by simpa using List.find?_some hr, hm⟩

/-- A decoded operation encodes back to its word (R84 to R93). -/
theorem encode_of_decode {w : Op16} {d : Dev} {i : Instr} (h : decode w d = some i) :
    encode i = w := by
  obtain ⟨r, hr, hw, rfl⟩ := decode_cases h
  calc encode (r.build w d)
    _ = (w &&& r.mask) ||| (w &&& ~~~r.mask) := by rw [encode_build w d r hr, hw]
    _ = w := by
      rw [← BitVec.and_or_distrib_left, BitVec.or_not_self, BitVec.and_allOnes]

end Sys2Proof
end

section
/-! What taking an offer does, and the guard that every operation opens with. -/

namespace Sys2Proof.Machine

/-- What `step` does with the offer it takes: the part of `step` after `State.fetch`, tied to it by
`step_of_fetch`. -/
def takeOffer (o : Offer) (t : State) : Host.Outcome State Fault Refusal :=
  match decodeOffer o with
  | some i => if offerAllows i o then exec i t else refuseNoAgentsStep i t
  | none => refuseInvalid o t

theorem step_of_faulted {s : State} {c : FaultCode} {l : Op16} (hf : s.fault = some (c, l)) :
    step s = .fault (.recorded c) := by
  unfold step; rw [hf]

theorem step_of_fetch {s t : State} {o : Offer} (hf : s.fault = none)
    (h : s.fetch = some (o, t)) : step s = takeOffer o t := by
  unfold step; rw [hf]; simp only [h]; rfl

theorem step_of_no_fetch {s : State} (hf : s.fault = none) (h : s.fetch = none) :
    step s = noStepLeft s := by
  unfold step; rw [hf]; simp only [h]

theorem fetch_of_schedule {s : State} {o : Offer} {rest : List Offer}
    (h : s.schedule = o :: rest) : s.fetch = some (o, { s with schedule := rest }) := by
  unfold State.fetch; rw [h]

theorem fetch_of_engineLabel {s : State} {w : Op16} (h : s.schedule = [])
    (hl : s.engineLabel = some w) : s.fetch = some (.word w Dev.absent, s) := by
  unfold State.fetch; rw [h]; simp only [hl]

theorem fetch_of_program {s : State} {o : Offer} {rest : List Offer} (h : s.schedule = [])
    (hl : s.engineLabel = none) (hp : s.program = o :: rest) :
    s.fetch = some (o, { s with program := rest }) := by
  unfold State.fetch; rw [h]; simp only [hl]; rw [hp]

theorem fetch_of_nothing {s : State} (h : s.schedule = []) (hl : s.engineLabel = none)
    (hp : s.program = []) : s.fetch = none := by
  unfold State.fetch; rw [h]; simp only [hl]; rw [hp]

theorem takeOffer_of_allowed {o : Offer} {i : Instr} (t : State) (hd : decodeOffer o = some i)
    (ha : offerAllows i o = true) : takeOffer o t = exec i t := by
  unfold takeOffer; rw [hd]; exact if_pos ha

theorem takeOffer_of_not_allowed {o : Offer} {i : Instr} (t : State)
    (hd : decodeOffer o = some i) (ha : offerAllows i o = false) :
    takeOffer o t = refuseNoAgentsStep i t := by
  unfold takeOffer; rw [hd]; exact if_neg (by simp [ha])

theorem takeOffer_of_invalid {o : Offer} (t : State) (hd : decodeOffer o = none) :
    takeOffer o t = refuseInvalid o t := by
  unfold takeOffer; rw [hd]

/-- The step of a state whose schedule is not empty takes its head (R15, R68). -/
theorem step_of_schedule {s : State} {o : Offer} {rest : List Offer} (hf : s.fault = none)
    (h : s.schedule = o :: rest) : step s = takeOffer o { s with schedule := rest } :=
  step_of_fetch hf (fetch_of_schedule h)

/-- Every operation checks FAULT, the configuration and its own condition before anything else. -/
theorem exec_eq_guarded (i : Instr) (s : State) :
    ∃ (p : Prop) (_ : Decidable p) (k : Host.Outcome State Fault Refusal),
      exec i s = guarded (encode i) p s k := by
  cases i <;> exact ⟨_, _, _, rfl⟩

/-- Settles O5: each clause is the head of the schedule taken, with an operation that the offer may or
may not be of. -/
theorem stepRunsTheScheduledOperation : Obligations.StepRunsTheScheduledOperation := by
  intro s w d a rest i hf
  refine ⟨fun hs hd ha => ?_, fun hs => ?_, fun hs hd ha => ?_, fun hs hd ha hc => ?_⟩
  · rw [step_of_schedule hf hs]
    exact takeOffer_of_allowed _ hd (decide_eq_true ha)
  · rw [step_of_schedule hf hs]
    exact takeOffer_of_allowed _ rfl rfl
  · rw [step_of_schedule hf hs]
    exact takeOffer_of_allowed _ hd (decide_eq_true ha)
  · rw [step_of_schedule hf hs,
      takeOffer_of_not_allowed (o := .word w d) _ hd (by simp [offerAllows, ha]),
      refuseNoAgentsStep_of_ready (s := { s with schedule := rest }) i hf hc, encode_of_decode hd]

/-- Settles O12: every operation is guarded, and the guard refuses under a bad configuration before it
looks at the operation's condition. -/
theorem badConfigurationIsRefusedBeforeAnyStep :
    Obligations.BadConfigurationIsRefusedBeforeAnyStep := by
  intro s i hf hc
  obtain ⟨p, hp, k, h⟩ := exec_eq_guarded i s
  rw [h, guarded_of_bad_config hf hc]
  rfl

end Sys2Proof.Machine
end

section
/-! Renaming device references: every shared operation, every operation, taking an offer and the step
commute with it. -/

namespace Sys2Proof

/-- The operation, with its device operand renamed: only REGISTER has one (R90). -/
def Instr.renameDevice (f : Dev → Dev) : Instr → Instr
  | .register a d => .register a (f d)
  | i => i

end Sys2Proof

namespace Sys2Proof.Machine

/-- What a stretch of a handler leaves, with every device renamed. -/
def Micro.renameDevices {α : Type} (f : Dev → Dev) : Micro α → Micro α
  | .ok a s => .ok a (s.renameDevices f)
  | .hold s => .hold (s.renameDevices f)
  | .fault c => .fault c

/-- The outcome of a step, with every device renamed. -/
def renameOutcome (f : Dev → Dev) :
    Host.Outcome State Fault Refusal → Host.Outcome State Fault Refusal
  | .next t => .next (t.renameDevices f)
  | .fault e => .fault e
  | .refused r => .refused r

/-- The stretch `m` of a handler does the same on renamed devices, renamed. -/
def Renames {α : Type} (f : Dev → Dev) (m : State → Micro α) : Prop :=
  ∀ s, m (s.renameDevices f) = (m s).renameDevices f

section
variable {f : Dev → Dev}

/-! ### Ways to put stretches together -/

theorem Renames.bind {α β : Type} {m : State → Micro α} {g : α → State → Micro β}
    (hm : Renames f m) (hg : ∀ a, Renames f (g a)) : Renames f fun s => (m s).bind g := by
  intro s
  simp only [hm s]
  cases m s with
  | ok a t => exact hg a t
  | hold t => rfl
  | fault c => rfl

theorem Renames.andThen {β : Type} {m : State → Micro Unit} {g : State → Micro β}
    (hm : Renames f m) (hg : Renames f g) : Renames f fun s => (m s).andThen g :=
  hm.bind fun _ => hg

/-- An update that names no device, made before the stretch. -/
theorem Renames.after {α : Type} {m : State → Micro α} {u : State → State} (hm : Renames f m)
    (hu : ∀ s : State, u (s.renameDevices f) = (u s).renameDevices f) :
    Renames f fun s => m (u s) := by
  intro s
  simp only [hu s]
  exact hm (u s)

theorem Renames.ite {α : Type} {c : State → Prop} [DecidablePred c] {m n : State → Micro α}
    (hc : ∀ s : State, c (s.renameDevices f) ↔ c s) (hm : Renames f m) (hn : Renames f n) :
    Renames f fun s => if c s then m s else n s := by
  intro s
  by_cases h : c s
  · simp only [if_pos h, if_pos ((hc s).mpr h)]; exact hm s
  · simp only [if_neg h, if_neg (mt (hc s).mp h)]; exact hn s

theorem fault_renames {α : Type} (c : FaultCode) : Renames f fun _ => (.fault c : Micro α) :=
  fun _ => rfl

theorem ok_renames {u : State → State}
    (hu : ∀ s : State, u (s.renameDevices f) = (u s).renameDevices f) :
    Renames f fun s => .ok () (u s) :=
  fun s => congrArg (Micro.ok ()) (hu s)

/-! ### Line primitives, guard and bus: no device is read or written -/

theorem lpRelSda_renames : Renames f lpRelSda :=
  .ite (fun _ => Iff.rfl) (fun _ => rfl) (fault_renames _)

theorem lpDrive_renames (b : Byte) : Renames f (lpDrive b) :=
  .ite (fun _ => Iff.rfl) (fun _ => rfl) (fault_renames _)

theorem lpArm_renames (n : Nat) : Renames f (lpArm n) :=
  .ite (fun _ => Iff.rfl) (fun _ => rfl) (fault_renames _)

theorem lpArmStart_renames : Renames f lpArmStart :=
  .ite (fun _ => Iff.rfl) (fun _ => rfl) (fault_renames _)

theorem gWait_renames : Renames f gWait :=
  .ite (fun _ => Iff.rfl) (fun _ => rfl) (fun _ => rfl)

theorem busBit_renames (m : Bool) : Renames f (busBit m) :=
  .ite (fun _ => Iff.rfl)
    (.ite (fun _ => Iff.rfl) (fault_renames _) (fun _ => rfl)) (fun _ => rfl)

/-! ### Capability calls and the registry: devices are only compared -/

theorem drawAnswer_rename (hf : ∀ a b, f a = f b → a = b) (s : State) (d : Dev) :
    (s.renameDevices f).drawAnswer (f d) =
      ((s.drawAnswer d).1, (s.drawAnswer d).2.renameDevices f) := by
  have h := takeAnswer_rename hf d s.answers
  simp only [drawAnswer_eq, nextAnswer, State.renameDevices_answers, h]
  cases takeAnswer d s.answers <;> rfl

theorem drawAnswer_rename_of {s t : State} {d : Dev} {a : Config.Answer}
    (hf : ∀ a b, f a = f b → a = b) (h : s.drawAnswer d = (a, t)) :
    (s.renameDevices f).drawAnswer (f d) = (a, t.renameDevices f) := by
  rw [drawAnswer_rename hf, h]

theorem slotDev?_rename_none {s : State} {i : Nat} (h : s.slotDev? i = none) :
    (s.renameDevices f).slotDev? i = none := by
  rw [State.renameDevices_slotDev?, h]; rfl

theorem slotDev?_rename_some {s : State} {i : Nat} {d : Dev} (h : s.slotDev? i = some d) :
    (s.renameDevices f).slotDev? i = some (f d) := by
  rw [State.renameDevices_slotDev?, h]; rfl

theorem callTransmit_renames (hf : ∀ a b, f a = f b → a = b) (i : Nat) (b : Bool) :
    Renames f (callTransmit i b) := by
  intro s
  cases hd : s.slotDev? i with
  | none =>
    rw [callTransmit_of_no_device hd, callTransmit_of_no_device (slotDev?_rename_none hd)]
    rfl
  | some d =>
    have hd' := slotDev?_rename_some (f := f) hd
    rcases ha : s.drawAnswer d with ⟨⟨v, m⟩ | _, t⟩
    · rw [callTransmit_of_reply hd ha, callTransmit_of_reply hd' (drawAnswer_rename_of hf ha)]; rfl
    · rw [callTransmit_of_stall hd ha, callTransmit_of_stall hd' (drawAnswer_rename_of hf ha)]; rfl

theorem callReceive_renames (hf : ∀ a b, f a = f b → a = b) (i : Nat) (b : Bool) (v : Byte) :
    Renames f (callReceive i b v) := by
  intro s
  cases hd : s.slotDev? i with
  | none =>
    rw [callReceive_of_no_device hd, callReceive_of_no_device (slotDev?_rename_none hd)]
    rfl
  | some d =>
    have hd' := slotDev?_rename_some (f := f) hd
    rcases ha : s.drawAnswer d with ⟨⟨w, m⟩ | _, t⟩
    · rw [callReceive_of_reply hd ha, callReceive_of_reply hd' (drawAnswer_rename_of hf ha)]; rfl
    · rw [callReceive_of_stall hd ha, callReceive_of_stall hd' (drawAnswer_rename_of hf ha)]; rfl

theorem insertSlot_rename (a : BusAddr) (d : Dev) (s : State) :
    insertSlot a (f d) (s.renameDevices f) = (insertSlot a d s).renameDevices f := by
  have hcount : (s.renameDevices f).regCount = s.regCount := List.length_map _
  have htaken : (s.renameDevices f).addrTaken a = s.addrTaken a := List.any_map
  unfold insertSlot
  rw [hcount, htaken, State.renameDevices_cfg, renameDevices_regCapacity]
  split
  · rfl
  · simp [State.renameDevices]

/-! ### The procedures and bodies of the handlers -/

theorem enterWaitStart_renames : Renames f enterWaitStart :=
  lpArmStart_renames.after fun _ => rfl

theorem enterAddr_renames : Renames f enterAddr :=
  .andThen (lpRelSda_renames.after fun _ => rfl) (lpArm_renames 8)

theorem prepRecvCont_renames : Renames f prepRecvCont :=
  .andThen (lpRelSda_renames.after fun _ => rfl) (lpArm_renames 8)

theorem doPrepRecv_renames : Renames f doPrepRecv :=
  .andThen (gWait_renames.after fun _ => rfl) prepRecvCont_renames

theorem afterSend_renames : Renames f afterSend :=
  .andThen (lpRelSda_renames.after fun _ => rfl) (lpArm_renames 1)

theorem afterRecv_renames : Renames f afterRecv :=
  .andThen ((lpDrive_renames ackDrive).after fun _ => rfl) (lpArm_renames 1)

theorem startBody_renames : Renames f startBody :=
  .andThen (enterAddr_renames.after fun _ => rfl) (fun _ => rfl)

/-- What OVF.ADDR writes to the engine record when slot `r` holds the address (R156). -/
def addressSlot (r : Nat) (s : State) : State :=
  { s with
    activeValid := true
    activeIdx := r
    first := true
    engState := if rwOf s.usr then .prepSend else .prepRecv }

theorem decodeAddress_of_no_match {s : State} (h : s.lookup (addrOf s.usr) = none) :
    decodeAddress s = enterWaitStart s := by
  unfold decodeAddress; rw [h]

theorem decodeAddress_of_match {s : State} {r : Nat} (h : s.lookup (addrOf s.usr) = some r) :
    decodeAddress s = (lpDrive ackDrive (addressSlot r s)).andThen (lpArm 1) := by
  unfold decodeAddress; rw [h]; rfl

theorem decodeAddress_renames : Renames f decodeAddress := by
  intro s
  have hl := State.renameDevices_lookup f s (addrOf s.usr)
  cases h : s.lookup (addrOf s.usr) with
  | none =>
    rw [decodeAddress_of_no_match h, decodeAddress_of_no_match (hl.trans h)]
    exact enterWaitStart_renames s
  | some r =>
    have hr : Renames f fun t => (lpDrive ackDrive (addressSlot r t)).andThen (lpArm 1) :=
      .andThen ((lpDrive_renames ackDrive).after fun _ => rfl) (lpArm_renames 1)
    rw [decodeAddress_of_match h, decodeAddress_of_match (hl.trans h)]
    exact hr s

section
variable (hf : ∀ a b, f a = f b → a = b)
include hf

theorem prepSendCont_renames : Renames f prepSendCont :=
  .ite (fun _ => Iff.rfl)
    (.bind (fun _ => callTransmit_renames hf _ _ _) fun v =>
      .andThen ((lpDrive_renames v).after fun _ => rfl) (lpArm_renames 8))
    (fault_renames _)

theorem doPrepSend_renames : Renames f doPrepSend :=
  .andThen (gWait_renames.after fun _ => rfl) (prepSendCont_renames hf)

theorem afterRecvAck_renames : Renames f afterRecvAck :=
  .ite (fun _ => Iff.rfl) enterWaitStart_renames (doPrepSend_renames hf)

theorem afterRecvProc_renames : Renames f afterRecvProc :=
  .ite (fun _ => Iff.rfl)
    (.bind (fun _ => callReceive_renames hf _ _ _ _) fun _ =>
      .ite (fun _ => Iff.rfl) (doPrepRecv_renames.after fun _ => rfl)
        (enterAddr_renames.after fun _ => rfl))
    (fault_renames _)

theorem txCall_renames (b : Bool) : Renames f (txCall b) :=
  .ite (fun _ => Iff.rfl)
    (.bind (fun _ => callTransmit_renames hf _ _ _) fun _ _ => rfl) (fault_renames _)

theorem rxCall_renames (b : Bool) (v : Byte) : Renames f (rxCall b v) :=
  .ite (fun _ => Iff.rfl)
    (.bind (fun _ => callReceive_renames hf _ _ _ _) fun _ _ => rfl) (fault_renames _)

end

/-! ### Operations -/

theorem guarded_rename {w : Op16} {p q : Prop} [Decidable p] [Decidable q] {s : State}
    {j k : Host.Outcome State Fault Refusal} (hpq : p ↔ q) (hk : j = renameOutcome f k) :
    guarded w p (s.renameDevices f) j = renameOutcome f (guarded w q s k) := by
  cases hs : s.fault with
  | some e => rw [guarded_of_faulted hs, guarded_of_faulted (s := s.renameDevices f) hs]; rfl
  | none =>
    by_cases hc : s.cfg.Wf
    · by_cases hq : q
      · rw [guarded_of_ready hs hc hq, ← hk]
        exact guarded_of_ready (s := s.renameDevices f) hs hc (hpq.mpr hq)
      · rw [guarded_of_not_enabled hs hc hq]
        exact guarded_of_not_enabled (s := s.renameDevices f) hs hc (mt hpq.mp hq)
    · rw [guarded_of_bad_config hs hc]
      exact guarded_of_bad_config (s := s.renameDevices f) hs hc

theorem finish_rename {m : State → Micro Unit} (hm : Renames f m) (l : Op16) (s t : State) :
    finish l (s.renameDevices f) (m (t.renameDevices f)) = renameOutcome f (finish l s (m t)) := by
  rw [hm t]
  cases m t <;> rfl

theorem overflowStep_rename {m : State → Micro Unit} (hm : Renames f m) (i : Instr) (stop : Bool)
    (st : EngState) (s : State) : overflowStep i stop st m (s.renameDevices f) =
      renameOutcome f (overflowStep i stop st m s) :=
  guarded_rename Iff.rfl (finish_rename hm _ s (gPrep s))

theorem resumeStep_rename {m : State → Micro Unit} (hm : Renames f m) (i : Instr) (st : EngState)
    (s : State) : resumeStep i st m (s.renameDevices f) = renameOutcome f (resumeStep i st m s) :=
  guarded_rename Iff.rfl (finish_rename hm _ s { s with hph := .idle })

theorem microStep_rename {m : State → Micro Unit} (hm : Renames f m) (i : Instr) (s : State) :
    microStep i m (s.renameDevices f) = renameOutcome f (microStep i m s) :=
  guarded_rename Iff.rfl (finish_rename hm _ s s)

theorem execRegister_rename (hf : ∀ a b, f a = f b → a = b) (a : Nat) (d : Dev) (s : State) :
    execRegister a (f d) (s.renameDevices f) = renameOutcome f (execRegister a d s) := by
  refine guarded_rename (by rw [State.renameDevices_cfg, renameDevices_hasDev hf])
    (congrArg Host.Outcome.next ?_)
  rw [apply_ite (State.renameDevices f), apply_ite (State.renameDevices f), ← insertSlot_rename]
  rfl

/-- Every operation does the same on renamed devices, renamed. -/
theorem exec_rename (hf : ∀ a b, f a = f b → a = b) (i : Instr) (s : State) :
    exec (i.renameDevice f) (s.renameDevices f) = renameOutcome f (exec i s) := by
  cases i with
  | ovfStop st => exact overflowStep_rename enterWaitStart_renames _ _ _ s
  | ovfWaitStart => exact overflowStep_rename (fault_renames _) _ _ _ s
  | ovfAddr => exact overflowStep_rename decodeAddress_renames _ _ _ s
  | ovfPrepSend => exact overflowStep_rename (doPrepSend_renames hf) _ _ _ s
  | ovfSend => exact overflowStep_rename afterSend_renames _ _ _ s
  | ovfRecvAck => exact overflowStep_rename (afterRecvAck_renames hf) _ _ _ s
  | ovfPrepRecv => exact overflowStep_rename doPrepRecv_renames _ _ _ s
  | ovfRecv => exact overflowStep_rename afterRecv_renames _ _ _ s
  | ovfRecvProc => exact overflowStep_rename (afterRecvProc_renames hf) _ _ _ s
  | startH => exact guarded_rename Iff.rfl (finish_rename startBody_renames _ s s)
  | gresumePrepSend => exact resumeStep_rename (prepSendCont_renames hf) _ _ s
  | gresumePrepRecv => exact resumeStep_rename prepRecvCont_renames _ _ s
  | bit m => exact guarded_rename Iff.rfl (finish_rename (busBit_renames m) _ s s)
  | bstart => exact guarded_rename Iff.rfl rfl
  | bstop => exact guarded_rename Iff.rfl rfl
  | tick => exact guarded_rename Iff.rfl rfl
  | init =>
    refine guarded_rename Iff.rfl (congrArg Host.Outcome.next ?_)
    rw [apply_ite (State.renameDevices f)]
    rfl
  | register a d => exact execRegister_rename hf a d s
  | lookup a =>
    refine guarded_rename Iff.rfl (congrArg Host.Outcome.next ?_)
    rw [State.renameDevices_lookup]
    rfl
  | txcall b => exact microStep_rename (txCall_renames hf b) _ s
  | rxcall b v => exact microStep_rename (rxCall_renames hf b v) _ s
  | lpRelSda => exact microStep_rename lpRelSda_renames _ s
  | lpDrive b => exact microStep_rename (lpDrive_renames b) _ s
  | lpArm1 => exact microStep_rename (lpArm_renames 1) _ s
  | lpArm8 => exact microStep_rename (lpArm_renames 8) _ s
  | lpArmStart => exact microStep_rename lpArmStart_renames _ s
  | lpAckStart => exact microStep_rename (ok_renames (u := lpAckStart) fun _ => rfl) _ s
  | lpClrStop => exact microStep_rename (ok_renames (u := lpClrStop) fun _ => rfl) _ s
  | gPrep => exact microStep_rename (ok_renames (u := gPrep) fun _ => rfl) _ s
  | gWait => exact microStep_rename gWait_renames _ s

/-! ### Offers and the step -/

theorem build_rename (w : Op16) (d : Dev) :
    ∀ r ∈ opRows, r.build w (f d) = (r.build w d).renameDevice f := by
  simp [opRows, ovfRows, eventRows, callRows, primitiveRows, Instr.renameDevice]

theorem decode_rename (w : Op16) (d : Dev) :
    decode w (f d) = (decode w d).map (Instr.renameDevice f) := by
  unfold decode decodeOrName
  cases hr : rowOf w with
  | none => rfl
  | some r => exact congrArg some (build_rename w d r (List.mem_of_find?_eq_some hr))

/-- No micro-operation has a device operand. -/
theorem renameDevice_of_micro {i : Instr} (h : agentOf i = .microOperation) :
    i.renameDevice f = i := by
  cases i with
  | register a d => cases h
  | _ => rfl

theorem agentOf_renameDevice (i : Instr) : agentOf (i.renameDevice f) = agentOf i := by
  cases i <;> rfl

theorem encode_renameDevice (i : Instr) : encode (i.renameDevice f) = encode i := by
  cases i <;> rfl

/-- A label of the engine decodes to the same operation whatever device stands beside it: it is never
REGISTER's word (R90, R103). -/
theorem decode_engineLabel {s : State} {w : Op16} (h : s.engineLabel = some w) (d e : Dev) :
    decode w d = decode w e := by
  unfold State.engineLabel at h
  split at h
  · cases h; rfl
  · split at h
    · cases h
      unfold State.ovfLabel
      cases s.stopFlag <;> cases s.engState <;> rfl
    · split at h
      · cases h
        unfold State.resumeLabel
        cases s.engState <;> rfl
      · cases h

theorem decodeOffer_rename_none {o : Offer} (h : decodeOffer o = none) :
    decodeOffer (o.renameDevice f) = none := by
  cases o with
  | word w d => exact (decode_rename w d).trans (congrArg (Option.map _) h)
  | registerCall a d => cases h
  | micro w => exact h

/-- A micro offer decodes with no device beside it, renamed or not, so where it is not allowed it need
not be of the renamed operation: only the word is the same, which is all a refusal shows. -/
theorem decodeOffer_rename_some {o : Offer} {i : Instr} (h : decodeOffer o = some i) :
    ∃ j, decodeOffer (o.renameDevice f) = some j ∧ encode j = encode i ∧
      offerAllows j (o.renameDevice f) = offerAllows i o ∧
      (offerAllows i o = true → j = i.renameDevice f) := by
  cases o with
  | word w d =>
    refine ⟨i.renameDevice f, (decode_rename w d).trans (congrArg (Option.map _) h),
      encode_renameDevice i, ?_, fun _ => rfl⟩
    simp only [Offer.renameDevice, offerAllows, agentOf_renameDevice]
  | registerCall a d =>
    cases h
    exact ⟨.register a (f d), rfl, rfl, rfl, fun _ => rfl⟩
  | micro w =>
    exact ⟨i, h, rfl, rfl, fun ha => (renameDevice_of_micro (of_decide_eq_true ha)).symm⟩

/-- Taking the renamed offer does the same, renamed. -/
theorem takeOffer_rename (hf : ∀ a b, f a = f b → a = b) (o : Offer) (t : State) :
    takeOffer (o.renameDevice f) (t.renameDevices f) = renameOutcome f (takeOffer o t) := by
  cases h : decodeOffer o with
  | none =>
    rw [takeOffer_of_invalid t h, takeOffer_of_invalid _ (decodeOffer_rename_none h)]
    cases o <;> exact guarded_rename Iff.rfl rfl
  | some i =>
    obtain ⟨j, hj, hword, hallow, hren⟩ := decodeOffer_rename_some (f := f) h
    cases ha : offerAllows i o with
    | true =>
      rw [takeOffer_of_allowed t h ha, takeOffer_of_allowed _ hj (hallow.trans ha), hren ha]
      exact exec_rename hf i t
    | false =>
      rw [takeOffer_of_not_allowed t h ha, takeOffer_of_not_allowed _ hj (hallow.trans ha)]
      unfold refuseNoAgentsStep
      rw [hword]
      exact guarded_rename Iff.rfl rfl

/-- An engine label is offered with no device beside it, so the offer has no name to change. -/
theorem takeOffer_engineLabel_rename (hf : ∀ a b, f a = f b → a = b) {s : State} {w : Op16}
    (h : s.engineLabel = some w) (t : State) :
    takeOffer (.word w Dev.absent) (t.renameDevices f) =
      renameOutcome f (takeOffer (.word w Dev.absent) t) := by
  have hd : decodeOffer (.word w Dev.absent) = decodeOffer (.word w (f Dev.absent)) :=
    decode_engineLabel h _ _
  rw [← takeOffer_rename hf]
  simp only [takeOffer, hd, Offer.renameDevice]
  rfl

theorem noStepLeft_rename (s : State) :
    noStepLeft (s.renameDevices f) = renameOutcome f (noStepLeft s) := by
  unfold noStepLeft
  rw [apply_ite (renameOutcome f)]
  rfl

/-- Every step does the same on renamed devices, renamed. -/
theorem step_rename (hf : ∀ a b, f a = f b → a = b) (s : State) :
    step (s.renameDevices f) = renameOutcome f (step s) := by
  cases hs : s.fault with
  | some e => rw [step_of_faulted hs, step_of_faulted (s := s.renameDevices f) hs]; rfl
  | none =>
    have hs' : (s.renameDevices f).fault = none := hs
    cases hq : s.schedule with
    | cons o rest =>
      have hq' : (s.renameDevices f).schedule = o.renameDevice f :: rest.map (.renameDevice f) :=
        congrArg (List.map _) hq
      rw [step_of_schedule hs hq, step_of_schedule hs' hq']
      exact takeOffer_rename hf o { s with schedule := rest }
    | nil =>
      have hq' : (s.renameDevices f).schedule = [] := congrArg (List.map _) hq
      cases hl : s.engineLabel with
      | some w =>
        rw [step_of_fetch hs (fetch_of_engineLabel hq hl),
          step_of_fetch hs' (fetch_of_engineLabel hq' hl)]
        exact takeOffer_engineLabel_rename hf hl s
      | none =>
        cases hp : s.program with
        | cons o rest =>
          have hp' : (s.renameDevices f).program = o.renameDevice f :: rest.map (.renameDevice f) :=
            congrArg (List.map _) hp
          rw [step_of_fetch hs (fetch_of_program hq hl hp),
            step_of_fetch hs' (fetch_of_program hq' hl hp')]
          exact takeOffer_rename hf o { s with program := rest }
        | nil =>
          have hp' : (s.renameDevices f).program = [] := congrArg (List.map _) hp
          rw [step_of_no_fetch hs (fetch_of_nothing hq hl hp),
            step_of_no_fetch hs' (fetch_of_nothing hq' hl hp')]
          exact noStepLeft_rename s

end

/-- Settles O60: every step commutes with a one-to-one renaming, because devices are only compared. -/
theorem deviceReferencesAreOpaque : Obligations.DeviceReferencesAreOpaque := by
  intro f hf s
  rw [step_rename hf]
  cases step s <;> rfl

end Sys2Proof.Machine
end

section
/-! What a bus bit and a capability call can do, and the ways a stretch of a handler ends. -/

namespace Sys2Proof.Machine

/-! ### A bus bit (R220) -/

/-- What a bit leaves while nothing is armed: it is traced. -/
def bitTraced (m : Bool) (s : State) : State := { s with trace := s.trace ++ [s.bitEvent m] }

/-- What a bit leaves while the peripheral is armed: it is traced, shifted in and counted. -/
def bitCounted (m : Bool) (s : State) : State :=
  { bitTraced m s with
    usr := shiftIn s.usr (s.sampled m)
    cntLeft := s.cntLeft - 1
    ovfFlag := if s.cntLeft - 1 = 0 then true else s.ovfFlag }

theorem busBit_of_not_armed {s : State} (h : ¬ (s.engLive = true ∧ s.armed = true)) (m : Bool) :
    busBit m s = .ok () (bitTraced m s) := by
  unfold busBit; rw [if_neg (by simpa using h)]; rfl

theorem busBit_of_none_left {s : State} (hl : s.engLive = true) (ha : s.armed = true)
    (hc : s.cntLeft = 0) (m : Bool) : busBit m s = .fault .badArm := by
  unfold busBit; rw [if_pos (by simp [hl, ha]), if_pos hc]

theorem busBit_of_armed {s : State} (hl : s.engLive = true) (ha : s.armed = true)
    (hc : s.cntLeft ≠ 0) (m : Bool) : busBit m s = .ok () (bitCounted m s) := by
  unfold busBit; rw [if_pos (by simp [hl, ha]), if_neg hc]; rfl

/-! ### A capability call (R241, R242, R244) -/

/-- How a call to slot `i` from `s` can end: no device, one entry in CALLS, or a stall. -/
inductive CallEnds {α : Type} (s : State) (i : Nat) : Micro α → Prop
  | noDevice (h : s.slotDev? i = none) : CallEnds s i (.fault .noActive)
  | reply {d : Dev} {a : Config.Answer} {t : State} (h : s.drawAnswer d = (a, t)) (v : α)
      (c : Call) : CallEnds s i (.ok v { t with calls := t.calls ++ [c] })
  | stall {d : Dev} {a : Config.Answer} {t : State} (h : s.drawAnswer d = (a, t)) :
      CallEnds s i (.hold t.stall)

theorem callTransmit_ends (i : Nat) (f : Bool) (s : State) : CallEnds s i (callTransmit i f s) := by
  cases hd : s.slotDev? i with
  | none => rw [callTransmit_of_no_device hd]; exact .noDevice hd
  | some d =>
    rcases ha : s.drawAnswer d with ⟨⟨v, m⟩ | _, t⟩
    · rw [callTransmit_of_reply hd ha]; exact .reply ha _ _
    · rw [callTransmit_of_stall hd ha]; exact .stall ha

theorem callReceive_ends (i : Nat) (f : Bool) (b : Byte) (s : State) :
    CallEnds s i (callReceive i f b s) := by
  cases hd : s.slotDev? i with
  | none => rw [callReceive_of_no_device hd]; exact .noDevice hd
  | some d =>
    rcases ha : s.drawAnswer d with ⟨⟨v, m⟩ | _, t⟩
    · rw [callReceive_of_reply hd ha]; exact .reply ha _ _
    · rw [callReceive_of_stall hd ha]; exact .stall ha

/-! ### The ways a stretch of a handler ends -/

/-- `Q` holds of the state in which the stretch ends, unless it faults. -/
def Micro.Leaves {α : Type} (Q : State → Prop) : Micro α → Prop
  | .ok _ t => Q t
  | .hold t => Q t
  | .fault _ => True

theorem Micro.Leaves.imp {α : Type} {P Q : State → Prop} {m : Micro α} (hm : m.Leaves P)
    (h : ∀ t, P t → Q t) : m.Leaves Q := by
  cases m with
  | ok a t => exact h t hm
  | hold t => exact h t hm
  | fault c => trivial

/-- What a bit leaves, unless it faults: it is traced, and counted only where a bit is left. -/
theorem busBit_leaves {Q : State → Prop} {m : Bool} {s : State} (htraced : Q (bitTraced m s))
    (hcounted : s.cntLeft ≠ 0 → Q (bitCounted m s)) : (busBit m s).Leaves Q := by
  by_cases ha : s.engLive = true ∧ s.armed = true
  · by_cases hc : s.cntLeft = 0
    · rw [busBit_of_none_left ha.1 ha.2 hc]; trivial
    · rw [busBit_of_armed ha.1 ha.2 hc]; exact hcounted hc
  · rw [busBit_of_not_armed ha]; exact htraced

/-- A handler's next state is the state its writes end in, or the one before with FAULT (R261). -/
theorem finish_next {l : Op16} {s t : State} {m : Micro Unit} {Q : State → Prop} (hm : m.Leaves Q)
    (h : finish l s m = .next t) : Q t ∨ ∃ c, t = s.raiseFault c l := by
  cases m with
  | ok a u => cases h; exact .inl hm
  | hold u => cases h; exact .inl hm
  | fault c => cases h; exact .inr ⟨c, rfl⟩

/-- A guarded step leaves what its body leaves where it is enabled, or the refusal of a bad
configuration (R10). -/
theorem guarded_next {w : Op16} {p : Prop} [Decidable p] {s t : State}
    {k : Host.Outcome State Fault Refusal} {Q : State → Prop} (h : guarded w p s k = .next t)
    (hr : Q (s.refuse .badConfig none)) (hk : s.cfg.Wf → p → k = .next t → Q t) : Q t := by
  obtain ⟨_, ⟨hc, hp, hkt⟩ | ⟨_, rfl⟩⟩ := guarded_next_cases h
  · exact hk hc hp hkt
  · exact hr

end Sys2Proof.Machine
end

section
/-! What every step keeps: the frame of the handlers' stretches, and from it the frame of `step`. -/

namespace Sys2Proof.Machine

/-! ### The frame of a handler's stretch -/

/-- What no stretch of a handler writes, and what it keeps of what it writes: CALLS grows, and the
fields stay within their widths. -/
structure HandlerKeeps (s t : State) : Prop where
  cfg : t.cfg = s.cfg := by rfl
  engLive : t.engLive = s.engLive := by rfl
  registry : t.registry = s.registry := by rfl
  regOvf : t.regOvf = s.regOvf := by rfl
  regDup : t.regDup = s.regDup := by rfl
  trace : t.trace = s.trace := by rfl
  calls : s.calls <+: t.calls := by exact List.prefix_rfl
  fault : t.fault = s.fault := by rfl
  refused : t.refused = s.refused := by rfl
  schedule : t.schedule = s.schedule := by rfl
  program : t.program = s.program := by rfl
  widths : s.WidthsOk → t.WidthsOk := by exact id

theorem HandlerKeeps.trans {s t u : State} (h : HandlerKeeps s t) (k : HandlerKeeps t u) :
    HandlerKeeps s u where
  cfg := k.cfg.trans h.cfg
  engLive := k.engLive.trans h.engLive
  registry := k.registry.trans h.registry
  regOvf := k.regOvf.trans h.regOvf
  regDup := k.regDup.trans h.regDup
  trace := k.trace.trans h.trace
  calls := h.calls.trans k.calls
  fault := k.fault.trans h.fault
  refused := k.refused.trans h.refused
  schedule := k.schedule.trans h.schedule
  program := k.program.trans h.program
  widths := k.widths ∘ h.widths

/-- The stretch `m` keeps the handler's frame, under a configuration that keeps R9. -/
def Keeps {α : Type} (m : State → Micro α) : Prop :=
  ∀ s, s.cfg.Wf → (m s).Leaves (HandlerKeeps s)

/-! ### Ways to put stretches together -/

theorem Keeps.bind {α β : Type} {m : State → Micro α} {g : α → State → Micro β} (hm : Keeps m)
    (hg : ∀ a, Keeps (g a)) : Keeps fun s => (m s).bind g := by
  intro s hc
  have hs := hm s hc
  simp only
  cases h : m s with
  | ok a t =>
    rw [h] at hs
    have ht : HandlerKeeps s t := hs
    exact (hg a t (ht.cfg ▸ hc)).imp fun _ => ht.trans
  | hold t => rw [h] at hs; exact hs
  | fault c => trivial

theorem Keeps.andThen {β : Type} {m : State → Micro Unit} {g : State → Micro β} (hm : Keeps m)
    (hg : Keeps g) : Keeps fun s => (m s).andThen g :=
  hm.bind fun _ => hg

/-- A write within the frame, made before the stretch. -/
theorem Keeps.after {α : Type} {m : State → Micro α} {u : State → State} (hm : Keeps m)
    (hu : ∀ s : State, HandlerKeeps s (u s)) : Keeps fun s => m (u s) :=
  fun s hc => (hm (u s) ((hu s).cfg ▸ hc)).imp fun _ => (hu s).trans

theorem Keeps.ite {α : Type} {c : State → Prop} [DecidablePred c] {m n : State → Micro α}
    (hm : Keeps m) (hn : Keeps n) : Keeps fun s => if c s then m s else n s := by
  intro s hc
  by_cases h : c s
  · simp only [if_pos h]; exact hm s hc
  · simp only [if_neg h]; exact hn s hc

theorem fault_keeps {α : Type} (c : FaultCode) : Keeps fun _ => (.fault c : Micro α) :=
  fun _ _ => trivial

theorem ok_keeps {u : State → State} (hu : ∀ s : State, HandlerKeeps s (u s)) :
    Keeps fun s => .ok () (u s) :=
  fun s _ => hu s

/-! ### The shared operations -/

theorem lpRelSda_keeps : Keeps lpRelSda := .ite (fun _ _ => {}) (fault_keeps _)

theorem lpDrive_keeps (b : Byte) : Keeps (lpDrive b) := .ite (fun _ _ => {}) (fault_keeps _)

theorem lpArmStart_keeps : Keeps lpArmStart := .ite (fun _ _ => {}) (fault_keeps _)

theorem lpArm_keeps (n : Nat) : Keeps (lpArm n) := by
  intro s _
  by_cases h : n = 1 ∨ n = 8
  · have hcnt : BitVec.ofNat 4 n ≤ 8 := by obtain rfl | rfl := h <;> decide
    rw [lpArm, if_pos h]
    exact { widths := fun ⟨hidx, hreg, _, hgcnt, hdev⟩ => ⟨hidx, hreg, hcnt, hgcnt, hdev⟩ }
  · rw [lpArm, if_neg h]; trivial

theorem gWait_keeps : Keeps gWait := .ite (fun _ _ => {}) (fun _ _ => {})

/-- The preload fits GCNT, because it is below P_GUARD_TOP (R9, R131). -/
theorem gPrep_keeps {s : State} (hc : s.cfg.Wf) : HandlerKeeps s (gPrep s) where
  widths := by
    obtain ⟨_, _, hpre, htop, _⟩ := hc
    rintro ⟨hidx, hreg, hcnt, hgcnt, hdev⟩
    refine ⟨hidx, hreg, hcnt, ?_, hdev⟩
    rw [gPrep_gcnt]
    split
    · exact hpre.trans htop
    · exact hgcnt

theorem drawAnswer_keeps {s t : State} {d : Dev} {a : Config.Answer}
    (h : s.drawAnswer d = (a, t)) : HandlerKeeps s t := by
  rw [drawAnswer_frame h]; exact {}

theorem CallEnds.keeps {α : Type} {s : State} {i : Nat} {m : Micro α} (h : CallEnds s i m) :
    m.Leaves (HandlerKeeps s) := by
  cases h with
  | noDevice => trivial
  | reply ha v c => exact (drawAnswer_keeps ha).trans { calls := List.prefix_append _ _ }
  | stall ha => exact (drawAnswer_keeps ha).trans {}

theorem callTransmit_keeps (i : Nat) (f : Bool) : Keeps (callTransmit i f) :=
  fun s _ => (callTransmit_ends i f s).keeps

theorem callReceive_keeps (i : Nat) (f : Bool) (b : Byte) : Keeps (callReceive i f b) :=
  fun s _ => (callReceive_ends i f b s).keeps

/-! ### The procedures and bodies of the handlers -/

theorem enterWaitStart_keeps : Keeps enterWaitStart := lpArmStart_keeps.after fun _ => {}

theorem enterAddr_keeps : Keeps enterAddr :=
  .andThen (lpRelSda_keeps.after fun _ => {}) (lpArm_keeps 8)

theorem prepRecvCont_keeps : Keeps prepRecvCont :=
  .andThen (lpRelSda_keeps.after fun _ => {}) (lpArm_keeps 8)

theorem doPrepRecv_keeps : Keeps doPrepRecv :=
  .andThen (gWait_keeps.after fun _ => {}) prepRecvCont_keeps

theorem prepSendCont_keeps : Keeps prepSendCont :=
  .ite
    (.bind (fun _ => callTransmit_keeps _ _ _) fun v =>
      .andThen ((lpDrive_keeps v).after fun _ => {}) (lpArm_keeps 8))
    (fault_keeps _)

theorem doPrepSend_keeps : Keeps doPrepSend :=
  .andThen (gWait_keeps.after fun _ => {}) prepSendCont_keeps

theorem afterSend_keeps : Keeps afterSend :=
  .andThen (lpRelSda_keeps.after fun _ => {}) (lpArm_keeps 1)

theorem afterRecvAck_keeps : Keeps afterRecvAck := .ite enterWaitStart_keeps doPrepSend_keeps

theorem afterRecv_keeps : Keeps afterRecv :=
  .andThen ((lpDrive_keeps ackDrive).after fun _ => {}) (lpArm_keeps 1)

theorem afterRecvProc_keeps : Keeps afterRecvProc :=
  .ite
    (.bind (fun _ => callReceive_keeps _ _ _ _) fun _ =>
      .ite (doPrepRecv_keeps.after fun _ => {}) (enterAddr_keeps.after fun _ => {}))
    (fault_keeps _)

theorem startBody_keeps : Keeps startBody :=
  .andThen (enterAddr_keeps.after fun _ => {}) (ok_keeps fun _ => {})

theorem txCall_keeps (f : Bool) : Keeps (txCall f) :=
  .ite
    (.bind (fun _ => callTransmit_keeps _ _ _) fun v =>
      ok_keeps (u := fun t => { t with result := .byte v }) fun _ => {})
    (fault_keeps _)

theorem rxCall_keeps (f : Bool) (b : Byte) : Keeps (rxCall f b) :=
  .ite
    (.bind (fun _ => callReceive_keeps _ _ _ _) fun c =>
      ok_keeps (u := fun t => { t with result := .more c }) fun _ => {})
    (fault_keeps _)

/-- P_SLOT_W is wide enough for every slot of a full registry (R9, R22). -/
theorem regCapacity_le_two_pow_slotW (p : Config.Params) : p.regCapacity ≤ 2 ^ p.slotW := by
  unfold Config.Params.slotW
  split
  · rename_i h; exact h.trans Nat.one_le_two_pow
  · have hlog : p.regCapacity - 1 < 2 ^ (Nat.log2 (p.regCapacity - 1) + 1) := Nat.lt_log2_self
    calc p.regCapacity
      _ ≤ 2 ^ (Nat.log2 (p.regCapacity - 1) + 1) := by omega
      _ ≤ _ := Nat.pow_le_pow_right (by decide) (le_max_right _ _)

theorem addressSlot_keeps {s : State} {r : Nat} {a : BusAddr} (h : s.lookup a = some r) :
    HandlerKeeps s (addressSlot r s) where
  widths := fun ⟨_, hreg, hcnt, hgcnt, hdev⟩ =>
    ⟨(firstMatch_lt h).trans_le (hreg.trans (regCapacity_le_two_pow_slotW _)), hreg, hcnt, hgcnt,
      hdev⟩

theorem decodeAddress_keeps : Keeps decodeAddress := by
  intro s hc
  cases h : s.lookup (addrOf s.usr) with
  | none => rw [decodeAddress_of_no_match h]; exact enterWaitStart_keeps s hc
  | some r =>
    have hr := addressSlot_keeps h
    rw [decodeAddress_of_match h]
    exact (Keeps.andThen (lpDrive_keeps ackDrive) (lpArm_keeps 1) (addressSlot r s) hc).imp
      fun _ => hr.trans

/-! ### The frame of a step -/

/-- What every step of every agent keeps (R30, R31, R43): the records grow or stick, the parameters
are fixed, a running engine runs on with its registry, and the fields stay within their widths. -/
structure StepKeeps (s t : State) : Prop where
  cfg : t.cfg = s.cfg := by rfl
  trace : s.trace <+: t.trace := by exact List.prefix_rfl
  calls : s.calls <+: t.calls := by exact List.prefix_rfl
  refused : s.refused ≠ none → t.refused = s.refused := by exact fun _ => rfl
  regOvf : s.regOvf = true → t.regOvf = true := by exact id
  regDup : s.regDup = true → t.regDup = true := by exact id
  live : s.engLive = true → t.engLive = true ∧ t.registry = s.registry ∧ t.regOvf = s.regOvf ∧
    t.regDup = s.regDup := by exact fun h => ⟨h, rfl, rfl, rfl⟩
  agentsOnly : s.AgentsOnly → t.AgentsOnly := by exact id
  widths : s.WidthsOk → t.WidthsOk := by exact id

theorem StepKeeps.trans {s t u : State} (h : StepKeeps s t) (k : StepKeeps t u) :
    StepKeeps s u where
  cfg := k.cfg.trans h.cfg
  trace := h.trace.trans k.trace
  calls := h.calls.trans k.calls
  refused := fun hs => by
    have ht := h.refused hs
    rw [k.refused (ht ▸ hs), ht]
  regOvf := k.regOvf ∘ h.regOvf
  regDup := k.regDup ∘ h.regDup
  live := fun hs => by
    obtain ⟨ht, hreg, hovf, hdup⟩ := h.live hs
    obtain ⟨hu, hreg', hovf', hdup'⟩ := k.live ht
    exact ⟨hu, hreg'.trans hreg, hovf'.trans hovf, hdup'.trans hdup⟩
  agentsOnly := k.agentsOnly ∘ h.agentsOnly
  widths := k.widths ∘ h.widths

theorem HandlerKeeps.stepKeeps {s t : State} (h : HandlerKeeps s t) : StepKeeps s t where
  cfg := h.cfg
  trace := by rw [h.trace]
  calls := h.calls
  refused := fun _ => h.refused
  regOvf := fun hs => h.regOvf.trans hs
  regDup := fun hs => h.regDup.trans hs
  live := fun hs => ⟨h.engLive.trans hs, h.registry, h.regOvf, h.regDup⟩
  agentsOnly := fun hs => by rw [State.AgentsOnly, h.schedule, h.program]; exact hs
  widths := h.widths

/-- The first refusal is kept (R43). -/
theorem refuse_stepKeeps (s : State) (c : RefusalCode) (w : Option Op16) :
    StepKeeps s (s.refuse c w) where
  refused := fun hs => by
    obtain ⟨r, hr⟩ := Option.ne_none_iff_exists'.mp hs
    rw [State.refuse_refused, hr]; rfl

/-- Where only agents' offers wait, one is taken, and only agents' offers are left. -/
theorem fetch_agentsOnly {s u : State} {o : Offer} (h : s.fetch = some (o, u)) (ha : s.AgentsOnly) :
    agentOffer o = true ∧ u.AgentsOnly := by
  obtain ⟨hs, hp⟩ := ha
  unfold State.fetch at h
  split at h
  · rename_i hsched
    cases h
    rw [hsched, List.all_cons, Bool.and_eq_true] at hs
    exact ⟨hs.1, hs.2, hp⟩
  · split at h
    · cases h; exact ⟨rfl, hs, hp⟩
    · split at h
      · rename_i hprog
        cases h
        rw [hprog, List.all_cons, Bool.and_eq_true] at hp
        exact ⟨hp.1, hs, hp.2⟩
      · cases h

theorem fetch_stepKeeps {s u : State} {o : Offer} (h : s.fetch = some (o, u)) : StepKeeps s u := by
  have hagents : s.AgentsOnly → u.AgentsOnly := fun ha => (fetch_agentsOnly h ha).2
  have hu := fetch_frame h
  generalize u.schedule = q, u.program = p at hu
  subst hu
  exact { agentsOnly := hagents }

/-- A guarded step keeps the frame if its body does, where it is enabled. -/
theorem guarded_stepKeeps {w : Op16} {p : Prop} [Decidable p] {s t : State}
    {k : Host.Outcome State Fault Refusal} (h : guarded w p s k = .next t)
    (hk : s.cfg.Wf → p → k = .next t → StepKeeps s t) : StepKeeps s t :=
  guarded_next h (refuse_stepKeeps s _ _) hk

theorem finish_stepKeeps {l : Op16} {s t : State} {m : Micro Unit} (hm : m.Leaves (HandlerKeeps s))
    (h : finish l s m = .next t) : StepKeeps s t := by
  obtain ht | ⟨c, rfl⟩ := finish_next hm h
  · exact ht.stepKeeps
  · exact {}

theorem overflowStep_stepKeeps {i : Instr} {stop : Bool} {st : EngState}
    {m : State → Micro Unit} {s t : State} (hm : Keeps m)
    (h : overflowStep i stop st m s = .next t) : StepKeeps s t :=
  guarded_stepKeeps h fun hc _ => finish_stepKeeps <|
    (hm (gPrep s) hc).imp fun _ => (gPrep_keeps hc).trans

theorem resumeStep_stepKeeps {i : Instr} {st : EngState} {m : State → Micro Unit} {s t : State}
    (hm : Keeps m) (h : resumeStep i st m s = .next t) : StepKeeps s t :=
  guarded_stepKeeps h fun hc _ => finish_stepKeeps <|
    hm.after (u := fun s => { s with hph := .idle }) (fun _ => {}) s hc

theorem microStep_stepKeeps {i : Instr} {m : State → Micro Unit} {s t : State} (hm : Keeps m)
    (h : microStep i m s = .next t) : StepKeeps s t :=
  guarded_stepKeeps h fun hc _ => finish_stepKeeps (hm s hc)

/-- A bus bit adds one TRACE entry, and counts CNT_LEFT down from above 0 only (R220). -/
theorem busBit_stepKeeps (m : Bool) (s : State) : (busBit m s).Leaves (StepKeeps s) := by
  have htrace : s.trace <+: s.trace ++ [s.bitEvent m] := List.prefix_append _ _
  refine busBit_leaves { trace := htrace } fun hne => { trace := htrace, widths := ?_ }
  rintro ⟨hidx, hreg, hcnt, hgcnt, hdev⟩
  have hdec : s.cntLeft - 1 ≤ 8 := by bv_omega
  exact ⟨hidx, hreg, hdec, hgcnt, hdev⟩

/-- TICK wraps GCNT at its width (R132). -/
theorem guardTick_stepKeeps (s : State) : StepKeeps s (guardTick s) where
  widths := by
    rintro ⟨hidx, hreg, hcnt, hgcnt, hdev⟩
    refine ⟨hidx, hreg, hcnt, ?_, hdev⟩
    rw [guardTick_gcnt]
    split
    · exact Nat.mod_lt _ (Nat.two_pow_pos _)
    · exact hgcnt

/-- INIT draws the fields that are any within their widths (R50; log entry 5). -/
theorem initState_stepKeeps {s : State} (h : s.engLive = false) : StepKeeps s (initState s) where
  live := fun hl => by simp [h] at hl
  widths := fun ⟨_, hreg, _, _, hdev⟩ => by
    have hcnt : BitVec.ofNat 4 (Config.anyCntLeft s.draws % 9) ≤ 8 := by bv_omega
    exact ⟨Nat.mod_lt _ (Nat.two_pow_pos _), hreg, hcnt, Nat.mod_lt _ (Nat.two_pow_pos _), hdev⟩

/-- A registration before INIT keeps the capacity, and the sticky flags (R30, R111). -/
theorem insertSlot_stepKeeps {s : State} {a : BusAddr} {d : Dev} (h : s.engLive = false)
    (hd : s.cfg.hasDev d = true) : StepKeeps s (insertSlot a d s) := by
  have hlen := insertSlot_length_le (a := a) (d := d) (s := s)
  have hlive {P : Prop} : s.engLive = true → P := fun hl => by simp [h] at hl
  unfold insertSlot at hlen ⊢
  split
  · exact { regOvf := fun _ => rfl, live := hlive }
  · rename_i hne
    rw [if_neg hne] at hlen
    refine
      { regDup := fun hs => by simp [hs], live := hlive
        widths := fun ⟨hidx, hreg, hcnt, hgcnt, hdev⟩ => ⟨hidx, hlen hreg, hcnt, hgcnt, ?_⟩ }
    simp only [List.all_append, hdev, List.all_cons, hd, List.all_nil, Bool.and_self]

/-- Every operation keeps the frame. -/
theorem exec_stepKeeps {i : Instr} {s t : State} (h : exec i s = .next t) : StepKeeps s t := by
  cases i with
  | ovfStop st => exact overflowStep_stepKeeps enterWaitStart_keeps h
  | ovfWaitStart => exact overflowStep_stepKeeps (fault_keeps _) h
  | ovfAddr => exact overflowStep_stepKeeps decodeAddress_keeps h
  | ovfPrepSend => exact overflowStep_stepKeeps doPrepSend_keeps h
  | ovfSend => exact overflowStep_stepKeeps afterSend_keeps h
  | ovfRecvAck => exact overflowStep_stepKeeps afterRecvAck_keeps h
  | ovfPrepRecv => exact overflowStep_stepKeeps doPrepRecv_keeps h
  | ovfRecv => exact overflowStep_stepKeeps afterRecv_keeps h
  | ovfRecvProc => exact overflowStep_stepKeeps afterRecvProc_keeps h
  | startH => exact guarded_stepKeeps h fun hc _ => finish_stepKeeps (startBody_keeps s hc)
  | gresumePrepSend => exact resumeStep_stepKeeps prepSendCont_keeps h
  | gresumePrepRecv => exact resumeStep_stepKeeps prepRecvCont_keeps h
  | bit m =>
    refine guarded_stepKeeps h fun _ _ hk => ?_
    obtain ht | ⟨c, rfl⟩ := finish_next (busBit_stepKeeps m s) hk
    · exact ht
    · exact {}
  | bstart =>
    refine guarded_stepKeeps h fun _ _ hk => ?_
    cases hk
    exact { trace := List.prefix_append _ _ }
  | bstop =>
    refine guarded_stepKeeps h fun _ _ hk => ?_
    cases hk
    exact { trace := List.prefix_append _ _ }
  | tick =>
    refine guarded_stepKeeps h fun _ _ hk => ?_
    cases hk
    exact guardTick_stepKeeps s
  | init =>
    refine guarded_stepKeeps h fun _ _ hk => ?_
    split at hk <;> rename_i hl <;> cases hk
    · exact refuse_stepKeeps s _ _
    · exact initState_stepKeeps (by simpa using hl)
  | register a d =>
    refine guarded_stepKeeps h fun _ hd hk => ?_
    split at hk
    · cases hk; exact refuse_stepKeeps s _ _
    · split at hk <;> rename_i hl <;> cases hk
      · exact refuse_stepKeeps s _ _
      · exact insertSlot_stepKeeps (by simpa using hl) hd
  | lookup a =>
    refine guarded_stepKeeps h fun _ _ hk => ?_
    cases hk
    exact {}
  | txcall f => exact microStep_stepKeeps (txCall_keeps f) h
  | rxcall f b => exact microStep_stepKeeps (rxCall_keeps f b) h
  | lpRelSda => exact microStep_stepKeeps lpRelSda_keeps h
  | lpDrive b => exact microStep_stepKeeps (lpDrive_keeps b) h
  | lpArm1 => exact microStep_stepKeeps (lpArm_keeps 1) h
  | lpArm8 => exact microStep_stepKeeps (lpArm_keeps 8) h
  | lpArmStart => exact microStep_stepKeeps lpArmStart_keeps h
  | lpAckStart => exact microStep_stepKeeps (ok_keeps fun _ => {}) h
  | lpClrStop => exact microStep_stepKeeps (ok_keeps fun _ => {}) h
  | gPrep => exact microStep_stepKeeps (m := fun t => .ok () (gPrep t)) (fun _ => gPrep_keeps) h
  | gWait => exact microStep_stepKeeps gWait_keeps h

/-- Every step keeps the frame. -/
theorem step_stepKeeps {s t : State} (h : step s = .next t) : StepKeeps s t := by
  obtain ⟨_, o, u, hu, ⟨i, _, _, hi⟩ | ⟨_, hr⟩ | ⟨i, _, _, _, rfl⟩⟩ := step_cases h
  · exact (fetch_stepKeeps hu).trans (exec_stepKeeps hi)
  · refine (fetch_stepKeeps hu).trans (guarded_stepKeeps hr fun _ _ hk => ?_)
    cases hk
    exact refuse_stepKeeps u _ _
  · exact (fetch_stepKeeps hu).trans (refuse_stepKeeps u _ _)

/-- Settles O39: a clause of the frame of every step. -/
theorem registryIsConstantAfterInit : Obligations.RegistryIsConstantAfterInit :=
  fun _ _ hlive h => (step_stepKeeps h).live hlive

/-- Settles O49: clauses of the frame of every step. -/
theorem recordsGrowAndStick : Obligations.RecordsGrowAndStick := by
  intro s t h
  have k := step_stepKeeps h
  exact ⟨k.trace, k.calls, k.refused, k.regOvf, k.regDup, k.cfg⟩

/-- Settles O56: a clause of the frame of every step. -/
theorem fieldWidthsAreKeptByEveryStep : Obligations.FieldWidthsAreKeptByEveryStep :=
  fun _ _ hw h => (step_stepKeeps h).widths hw

end Sys2Proof.Machine
end

section
/-! What the master sees of a bit, and what it leaves of the engine record. -/

namespace Sys2Proof.Machine

/-- A bit that has a step is its body. -/
theorem execBit_body {s t : State} {m : Bool} (hs : s.Ready) (h : execBit m s = .next t) :
    finish (encode (.bit m)) s (busBit m s) = .next t := by
  obtain ⟨_, ⟨_, _, hk⟩ | ⟨hc, _⟩⟩ := guarded_next_cases h
  · exact hk
  · exact absurd hs.2 hc

/-- The clock hold is the only thing that keeps a ready state from a bus bit (R220). -/
theorem execBit_not_enabled_iff {s : State} (hs : s.Ready) (m : Bool) :
    execBit m s = .refused (.notEnabled (encode (.bit m))) ↔ s.sclHeld = true := by
  unfold execBit
  cases h : s.sclHeld with
  | true => simp [guarded_of_not_enabled hs.1 hs.2]
  | false =>
    rw [guarded_of_ready hs.1 hs.2 rfl]
    obtain ⟨_, _, hk⟩ | ⟨_, _, hk⟩ | ⟨_, _, hk⟩ := finish_cases (encode (.bit m)) s (busBit m s) <;>
      simp [hk]

/-- Settles O32: the hold, the drive, the TRACE entry and the shift of a bit are computed from the
fields the two states agree on. -/
theorem masterSeesOnlyTheLines : Obligations.MasterSeesOnlyTheLines := by
  intro s t m s' t' hlive hsda husr harmed hcnt hovf hstart hs ht
  have hheld : s.sclHeld = t.sclHeld := by simp only [State.sclHeld, hlive, hovf, hstart]
  have hout : s.sOut = t.sOut := by simp only [State.sOut, hlive, hsda, husr]
  have hsampled : s.sampled m = t.sampled m := by simp only [State.sampled, hout]
  have hevent : s.bitEvent m = t.bitEvent m := by
    simp only [State.bitEvent, hout, hsampled, harmed]
  refine ⟨?_, fun h h' hf => ?_⟩
  · exact (execBit_not_enabled_iff hs m).trans (hheld ▸ (execBit_not_enabled_iff ht m).symm)
  · have hk := execBit_body hs h
    have hk' := execBit_body ht h'
    by_cases ha : s.engLive = true ∧ s.armed = true
    · obtain ⟨hl, ha⟩ := ha
      by_cases hc : s.cntLeft = 0
      · rw [busBit_of_none_left hl ha hc] at hk
        cases hk
        cases hf
      · rw [busBit_of_armed hl ha hc] at hk
        rw [busBit_of_armed (hlive ▸ hl) (harmed ▸ ha) (hcnt ▸ hc)] at hk'
        cases hk; cases hk'
        refine ⟨t.bitEvent m, hevent ▸ rfl, rfl, ?_⟩
        simp [bitCounted, bitTraced, State.sclHeld, State.sOut, hlive, hsda, husr, hsampled, hcnt,
          hovf, hstart, ht.1]
    · rw [busBit_of_not_armed ha] at hk
      rw [busBit_of_not_armed (hlive ▸ harmed ▸ ha)] at hk'
      cases hk; cases hk'
      exact ⟨t.bitEvent m, hevent ▸ rfl, rfl, husr, hcnt, hovf, hheld, hout, ht.1⟩

/-- The engine record, CALLS, the registry and ENG_LIVE are as they were. -/
def SameEngine (s t : State) : Prop :=
  t.engState = s.engState ∧ t.activeValid = s.activeValid ∧ t.activeIdx = s.activeIdx ∧
  t.rxbuf = s.rxbuf ∧ t.first = s.first ∧ t.hph = s.hph ∧ t.calls = s.calls ∧
  t.registry = s.registry ∧ t.engLive = s.engLive

theorem SameEngine.refl (s : State) : SameEngine s s :=
  ⟨rfl, rfl, rfl, rfl, rfl, rfl, rfl, rfl, rfl⟩

theorem busBit_sameEngine (m : Bool) (s : State) : (busBit m s).Leaves (SameEngine s) :=
  busBit_leaves (SameEngine.refl s) fun _ => SameEngine.refl s

/-- The operations of the master and of the guard counter (R68). -/
theorem master_or_guardCounter_cases {i : Instr}
    (h : agentOf i = .master ∨ agentOf i = .guardCounter) :
    (∃ m, i = .bit m) ∨ i = .bstart ∨ i = .bstop ∨ i = .tick := by
  cases i <;> simp [agentOf] at h ⊢

/-- Settles O47: each of the four operations writes the peripheral or the guard only. -/
theorem onlyHandlersAndStartupWriteTheEngineRecord :
    Obligations.OnlyHandlersAndStartupWriteTheEngineRecord := by
  intro s t i ha h
  have hself : SameEngine s s := SameEngine.refl s
  obtain ⟨m, rfl⟩ | rfl | rfl | rfl := master_or_guardCounter_cases ha <;>
    refine guarded_next (Q := SameEngine s) h hself fun _ _ hk => ?_
  · obtain ht | ⟨c, rfl⟩ := finish_next (busBit_sameEngine m s) hk
    · exact ht
    · exact hself
  · cases hk; exact hself
  · cases hk; exact hself
  · cases hk; exact hself

end Sys2Proof.Machine
end

section
/-! The packed views (R44, R45): fields shifted into place and or-ed are fields put side by side. -/

namespace Sys2Proof.Machine

/-- A field put above another is the two or-ed, the upper one shifted by the width of the lower. -/
theorem append_setWidth {n m : Nat} (x : BitVec n) (y : BitVec m) (k : Nat) :
    (x ++ y).setWidth k = x.setWidth k <<< m ||| y.setWidth k := by
  ext i hi
  by_cases h : i < m
  · simp [BitVec.getLsbD_append, h]
  · simp [BitVec.getLsbD_append, h, BitVec.getLsbD_of_ge y i (by omega)]

theorem bitOf_eq_setWidth (b : Bool) :
    bitOf b = (if b = true then (1#1) else (0#1)).setWidth 16 := by
  cases b <;> rfl

/-- Settles O57: each view is the fields side by side, shifted by the widths of those below. -/
theorem packedViewsHoldTheirFields : Obligations.PackedViewsHoldTheirFields := by
  intro s
  constructor
  · rw [← BitVec.setWidth_eq (_ ++ stateCode s.engState), append_setWidth (m := 3),
      append_setWidth (m := 1), append_setWidth (m := 1), append_setWidth (m := 2),
      append_setWidth (m := 1)]
    simp only [State.engw, bitOf_eq_setWidth, BitVec.shiftLeft_or_distrib,
      ← BitVec.shiftLeft_add, Nat.reduceAdd]
    ac_rfl
  · rw [← BitVec.setWidth_eq (_ ++ s.cntLeft), append_setWidth (m := 4), append_setWidth (m := 4),
      append_setWidth (m := 1), append_setWidth (m := 1), append_setWidth (m := 1),
      append_setWidth (m := 1), append_setWidth (m := 1)]
    simp only [State.pstat, bitOf_eq_setWidth, BitVec.shiftLeft_or_distrib,
      ← BitVec.shiftLeft_add, Nat.reduceAdd, BitVec.setWidth_zero, BitVec.zero_shiftLeft,
      BitVec.zero_or, BitVec.or_zero]
    ac_rfl

end Sys2Proof.Machine
end

section
/-! The invariant (R49) is kept by every step: a running engine keeps INV1 to INV6 through every
stretch of its handlers, which therefore never fault. -/

namespace Sys2Proof.Machine

/-! ### The invariant, for a block that runs and for one before INIT -/

/-- INV1 to INV6 in a running block with no fault, with the clauses of log entry 9. -/
structure Running (s : State) : Prop where
  fault : s.fault = none
  live : s.engLive = true
  inv1 : s.Inv1
  inv2 : s.Inv2
  inv3 : s.Inv3
  inv4 : s.Inv4
  inv5 : s.Inv5
  inv6 : s.Inv6
  aux : s.InvAux

/-- A block before INIT, with no fault: no handler runs (R27). -/
structure Dormant (s : State) : Prop where
  fault : s.fault = none
  notLive : s.engLive = false
  idle : s.hph = .idle

/-- The invariant is `Running` or `Dormant`, beside what `StepKeeps` covers. -/
theorem inv_iff (s : State) : s.Inv ↔ (Running s ∨ Dormant s) ∧ s.WidthsOk ∧ s.AgentsOnly := by
  constructor
  · rintro ⟨hf, hw, ha, hidle, hrun⟩
    refine ⟨?_, hw, ha⟩
    cases hl : s.engLive with
    | true =>
      obtain ⟨h1, h2, h3, h4, h5, h6, haux⟩ := hrun hl
      exact .inl ⟨hf, hl, h1, h2, h3, h4, h5, h6, haux⟩
    | false => exact .inr ⟨hf, hl, hidle hl⟩
  · rintro ⟨hr | hd, hw, ha⟩
    · exact ⟨hr.fault, hw, ha, fun hl => absurd hr.live (by simp [hl]), fun _ =>
        ⟨hr.inv1, hr.inv2, hr.inv3, hr.inv4, hr.inv5, hr.inv6, hr.aux⟩⟩
    · exact ⟨hd.fault, hw, ha, fun _ => hd.idle, fun hl => absurd hd.notLive (by simp [hl])⟩

/-! ### Inside a handler -/

/-- What holds where a handler arms: it leaves the engine outside WaitStart, and
INV3 holds there. -/
structure Arming (s : State) : Prop where
  fault : s.fault = none
  live : s.engLive = true
  idle : s.hph = .idle
  left : s.engState ≠ .waitStart
  inv3 : s.Inv3

/-- What holds inside an invocation of the overflow handler, until it arms again or ends. -/
structure Handling (s : State) : Prop extends Arming s where
  ovf : s.ovfFlag = true
  noStart : s.startFlag = false
  armed : s.armed = true
  inv6 : s.Inv6

/-- Inside an invocation with a slave addressed. -/
structure Serving (s : State) : Prop extends Handling s where
  active : s.activeValid = true ∧ s.activeIdx < s.regCount

theorem Handling.held {s : State} (h : Handling s) : s.sclHeld = true := by
  simp [State.sclHeld, h.live, h.ovf]

theorem Handling.serving {s : State} (h : Handling s) (he : EngState.Addressed s.engState) :
    Serving s :=
  ⟨h, h.inv3 he⟩

/-- The states in which the slave may drive SDA (INV6). -/
abbrev EngState.Driving (e : EngState) : Prop :=
  e = .prepSend ∨ e = .send ∨ e = .prepRecv ∨ e = .recvProc

/-- A handler that pauses keeps the invariant: the overflow goes on holding the clock (INV5), and
only a guard that is there is waited for, in the two states of R133. -/
theorem Handling.paused_running {s : State} {p : HandlerPhase} (h : Handling s) (hp : p ≠ .idle)
    (hg : p = .gwait → s.cfg.guardPresent = true ∧
      (s.engState = .prepSend ∨ s.engState = .prepRecv)) :
    Running { s with hph := p } where
  fault := h.fault
  live := h.live
  inv1 := fun hi => absurd hi hp
  inv2 := by simp [State.Inv2, h.noStart]
  inv3 := h.inv3
  inv4 := by simp [State.Inv4, h.ovf]
  inv5 := ⟨fun hw => ⟨h.ovf, (hg hw).2⟩, fun _ => h.ovf⟩
  inv6 := h.inv6
  aux := ⟨fun _ => h.armed, fun hw => (hg hw).1⟩

/-- The entry of the overflow handler: by INV1 and log entry 9 it is not in WaitStart. -/
theorem Running.handling {s : State} (h : Running s) (he : s.OvfEnabled) : Handling s := by
  obtain ⟨_, hidle, hovf, hnoStart⟩ := he
  have harmed : s.armed = true := h.aux.1 hovf
  have hleft : s.engState ≠ .waitStart := fun hw => by simpa [harmed] using (h.inv1 hidle).mpr hw
  exact
    { h with idle := hidle, ovf := hovf, noStart := hnoStart, armed := harmed, left := hleft }

/-- G.PREP writes the guard only. -/
theorem Handling.gPrep_handling {s : State} (h : Handling s) : Handling (gPrep s) := { h with }

/-- The end of a guard wait: the invocation is where it held (INV5). -/
theorem Running.resumed {s : State} (h : Running s) (hw : s.hph = .gwait) :
    Handling { s with hph := .idle } := by
  obtain ⟨hovf, he⟩ := h.inv5.1 hw
  have hnoStart : s.startFlag = false := by simpa [State.Inv2, hovf] using h.inv2
  exact
    { h with
      idle := rfl, ovf := hovf, noStart := hnoStart, armed := h.aux.1 hovf
      left := fun hws => by obtain he | he := he <;> cases he.symm.trans hws }

/-! ### The ways a stretch of a handler ends -/

/-- The stretch raises no fault: it goes on in a state of `G`, or pauses with the invariant kept. -/
def Micro.Completes {α : Type} (G : State → Prop) : Micro α → Prop
  | .ok _ t => G t
  | .hold t => Running t
  | .fault _ => False

theorem Micro.Completes.bind {α β : Type} {G G' : State → Prop} {m : Micro α}
    {f : α → State → Micro β} (hm : m.Completes G) (hf : ∀ a t, G t → (f a t).Completes G') :
    (m.bind f).Completes G' := by
  cases m with
  | ok a t => exact hf a t hm
  | hold t => exact hm
  | fault c => exact hm.elim

theorem Micro.Completes.andThen {β : Type} {G G' : State → Prop} {m : Micro Unit}
    {f : State → Micro β} (hm : m.Completes G) (hf : ∀ t, G t → (f t).Completes G') :
    (m.andThen f).Completes G' :=
  hm.bind fun _ => hf

theorem Micro.Completes.finish {l : Op16} {s t : State} {m : Micro Unit}
    (hm : m.Completes Running) (h : finish l s m = .next t) : Running t := by
  cases m with
  | ok a u => cases h; exact hm
  | hold u => cases h; exact hm
  | fault c => exact hm.elim

/-! ### The shared operations -/

/-- Armed again outside WaitStart, the invocation is over with the invariant kept. -/
theorem Arming.lpArm_completes {n : Nat} {s : State} (h : Arming s) (h6 : s.Inv6)
    (hn : n = 1 ∨ n = 8) : (lpArm n s).Completes Running := by
  have hcnt : 1 ≤ BitVec.ofNat 4 n ∧ BitVec.ofNat 4 n ≤ 8 := by obtain rfl | rfl := hn <;> decide
  rw [lpArm, if_pos hn]
  exact
    { h with
      inv1 := fun _ => ⟨nofun, fun hw => absurd hw h.left⟩, inv2 := nofun
      inv4 := fun _ _ => hcnt, inv5 := by simp [State.Inv5, h.idle], inv6 := h6
      aux := by simp [State.InvAux, h.idle] }

/-- SDA released under the clock hold, and armed (R164, R167). -/
theorem Arming.release_completes {n : Nat} {s : State} (h : Arming s) (hh : s.sclHeld = true)
    (hn : n = 1 ∨ n = 8) : ((lpRelSda s).andThen (lpArm n)).Completes Running := by
  rw [lpRelSda_of_held hh, Micro.andThen_ok]
  exact Arming.lpArm_completes { h with } nofun hn

/-- SDA driven under the clock hold, in a state that may drive it, and armed (R156, R159). -/
theorem Arming.drive_completes {n : Nat} {s : State} {e : EngState} (h : Arming s)
    (hh : s.sclHeld = true) (b : Byte) (he : s.engState = e) (hd : EngState.Driving e)
    (hn : n = 1 ∨ n = 8) : ((lpDrive b s).andThen (lpArm n)).Completes Running := by
  rw [lpDrive_of_held hh, Micro.andThen_ok]
  exact Arming.lpArm_completes { h with } (fun _ => he ▸ hd) hn

theorem Serving.gWait_completes {s : State} (h : Serving s)
    (he : s.engState = .prepSend ∨ s.engState = .prepRecv) :
    (gWait s).Completes Serving := by
  by_cases ho : s.GuardOpen
  · rw [gWait_of_open ho]; exact h
  · simp only [State.GuardOpen, not_or, Bool.not_eq_false, Bool.not_eq_true] at ho
    rw [gWait_of_closed ho.1 ho.2]
    exact h.paused_running nofun fun _ => ⟨ho.1, he⟩

theorem Serving.of_drawAnswer {s t : State} {d : Dev} {a : Config.Answer} (h : Serving s)
    (ha : s.drawAnswer d = (a, t)) : Serving t := by
  rw [drawAnswer_frame ha]; exact { h with }

theorem CallEnds.completes {α : Type} {s : State} {m : Micro α} (hm : CallEnds s s.activeIdx m)
    (h : Serving s) : m.Completes Serving := by
  cases hm with
  | noDevice hd =>
    obtain ⟨d, hd'⟩ := slotDev?_of_lt h.active.2
    simp [hd] at hd'
  | reply ha v c => exact { h.of_drawAnswer ha with }
  | stall ha => exact (h.of_drawAnswer ha).paused_running (p := .stalled) nofun nofun

/-! ### The procedures and bodies of the handlers -/

theorem Handling.enterWaitStart_completes {s : State} (h : Handling s) :
    (enterWaitStart s).Completes Running := by
  rw [enterWaitStart_of_held h.held]
  exact
    { h with
      inv1 := fun _ => ⟨fun _ => rfl, fun _ => rfl⟩, inv2 := nofun, inv3 := by simp, inv4 := nofun
      inv5 := by simp [State.Inv5, h.idle], inv6 := nofun
      aux := by simp [State.InvAux, h.idle] }

/-- Also from START.H, where a pending start holds the clock and there is no overflow (R151). -/
theorem enterAddr_completes {s : State} (hf : s.fault = none) (hl : s.engLive = true)
    (hi : s.hph = .idle) (hh : s.sclHeld = true) : (enterAddr s).Completes Running :=
  Arming.release_completes (s := { s with engState := .addr }) ⟨hf, hl, hi, nofun, by simp⟩ hh
    (.inr rfl)

theorem Serving.prepRecvCont_completes {s : State} (h : Serving s) :
    (prepRecvCont s).Completes Running :=
  Arming.release_completes (s := { s with engState := .recv })
    { h with left := nofun, inv3 := fun _ => h.active } h.held (.inr rfl)

/-- The engine goes to a state in which it may drive SDA. -/
theorem Serving.enter {s : State} (h : Serving s) {e : EngState} (he : EngState.Driving e) :
    Serving { s with engState := e } :=
  { h with left := by obtain rfl | rfl | rfl | rfl := he <;> nofun
           inv3 := fun _ => h.active, inv6 := fun _ => he }

theorem Serving.doPrepRecv_completes {s : State} (h : Serving s) :
    (doPrepRecv s).Completes Running :=
  ((h.enter (e := .prepRecv) (by decide)).gWait_completes (.inr rfl)).andThen fun _ =>
    Serving.prepRecvCont_completes

theorem Serving.prepSendCont_completes {s : State} (h : Serving s) :
    (prepSendCont s).Completes Running := by
  rw [prepSendCont, if_pos h.active.1]
  refine ((callTransmit_ends _ s.first s).completes h).bind fun v t ht => ?_
  exact Arming.drive_completes (s := { t with first := false, engState := .send }) (e := .send)
    { ht.enter (e := .send) (by decide) with } ht.held v rfl (by decide) (.inr rfl)

theorem Serving.doPrepSend_completes {s : State} (h : Serving s) :
    (doPrepSend s).Completes Running :=
  ((h.enter (e := .prepSend) (by decide)).gWait_completes (.inl rfl)).andThen fun _ =>
    Serving.prepSendCont_completes

theorem Handling.decodeAddress_completes {s : State} (h : Handling s) :
    (decodeAddress s).Completes Running := by
  cases hr : s.lookup (addrOf s.usr) with
  | none => rw [decodeAddress_of_no_match hr]; exact h.enterWaitStart_completes
  | some r =>
    have hprep : (addressSlot r s).engState = .prepSend ∨
        (addressSlot r s).engState = .prepRecv := by
      cases hrw : rwOf s.usr <;> simp [addressSlot, hrw]
    rw [decodeAddress_of_match hr]
    exact Arming.drive_completes (s := addressSlot r s)
      { h with left := by obtain he | he := hprep <;> simp [he]
               inv3 := fun _ => ⟨rfl, firstMatch_lt hr⟩ }
      h.held _ rfl (by obtain he | he := hprep <;> rw [he] <;> decide) (.inl rfl)

theorem Serving.afterSend_completes {s : State} (h : Serving s) : (afterSend s).Completes Running :=
  Arming.release_completes (s := { s with engState := .recvAck })
    { h with left := nofun, inv3 := fun _ => h.active } h.held (.inl rfl)

theorem Serving.afterRecvAck_completes {s : State} (h : Serving s) :
    (afterRecvAck s).Completes Running := by
  unfold afterRecvAck
  split
  · exact h.enterWaitStart_completes
  · exact h.doPrepSend_completes

theorem Serving.afterRecv_completes {s : State} (h : Serving s) : (afterRecv s).Completes Running :=
  Arming.drive_completes (s := { s with rxbuf := s.usr, engState := .recvProc }) (e := .recvProc)
    { h.enter (e := .recvProc) (by decide) with } h.held _ rfl (by decide) (.inl rfl)

theorem Serving.afterRecvProc_completes {s : State} (h : Serving s) :
    (afterRecvProc s).Completes Running := by
  rw [afterRecvProc, if_pos h.active.1]
  refine ((callReceive_ends _ s.first s.rxbuf s).completes h).bind fun c t ht => ?_
  split
  · exact Serving.doPrepRecv_completes { ht with }
  · exact enterAddr_completes ht.fault ht.live ht.idle ht.held

/-- START.H rearms, and then acknowledges the start (R151). -/
theorem Running.startBody_completes {s : State} (h : Running s) (he : s.StartEnabled) :
    (startBody s).Completes Running := by
  obtain ⟨hl, hi, hs⟩ := he
  have hh : s.sclHeld = true := by simp [State.sclHeld, hl, hs]
  refine (enterAddr_completes (s := lpClrStop s) h.fault hl hi hh).andThen fun t ht => ?_
  exact { ht with inv2 := nofun }

/-! ### Operations -/

/-- A refusal writes REFUSED only. -/
theorem Running.refuse {s : State} (h : Running s) (c : RefusalCode) (w : Option Op16) :
    Running (s.refuse c w) := { h with }

theorem Dormant.refuse {s : State} (h : Dormant s) (c : RefusalCode) (w : Option Op16) :
    Dormant (s.refuse c w) := { h with }

/-- A step of the overflow handler keeps the invariant if its action completes. -/
theorem overflowStep_running {i : Instr} {stop : Bool} {st : EngState}
    {action : State → Micro Unit} {s t : State} (h : Running s)
    (ha : ∀ u, Handling u → u.engState = st → (action u).Completes Running)
    (hn : overflowStep i stop st action s = .next t) : Running t :=
  guarded_next hn (h.refuse _ _) fun _ ⟨hovf, _, he⟩ =>
    (ha _ (h.handling hovf).gPrep_handling he).finish

theorem overflowStep_running_of_serving {i : Instr} {stop : Bool} {st : EngState}
    {action : State → Micro Unit} {s t : State} (h : Running s) (hst : EngState.Addressed st)
    (ha : ∀ u, Serving u → (action u).Completes Running)
    (hn : overflowStep i stop st action s = .next t) : Running t :=
  overflowStep_running h (fun u hu he => ha u (hu.serving (he ▸ hst))) hn

/-- A resume keeps the invariant if the rest of the invocation completes (R134, INV5). -/
theorem resumeStep_running {i : Instr} {st : EngState} {cont : State → Micro Unit} {s t : State}
    (h : Running s) (hst : EngState.Addressed st)
    (hc : ∀ u, Serving u → (cont u).Completes Running)
    (hn : resumeStep i st cont s = .next t) : Running t :=
  guarded_next hn (h.refuse _ _) fun _ ⟨⟨_, hwait, _⟩, he⟩ =>
    (hc _ ((h.resumed hwait).serving (he ▸ hst))).finish

/-- A bus bit is enabled only while nothing is pending, so INV4 leaves it a bit to count (R220). -/
theorem Running.busBit_completes {s : State} (h : Running s) (hh : s.sclHeld = false) (m : Bool) :
    (busBit m s).Completes Running := by
  obtain ⟨hovf, hstart⟩ : s.ovfFlag = false ∧ s.startFlag = false := by
    simpa [State.sclHeld, h.live] using hh
  have hpending {P : Prop} (ho : s.ovfFlag = true) : P := by simp [hovf] at ho
  by_cases ha : s.armed = true
  · obtain ⟨hpos, hle⟩ := h.inv4 ha hovf
    have hne : s.cntLeft ≠ 0 := by bv_omega
    have hcnt : s.cntLeft - 1 ≠ 0 → 1 ≤ s.cntLeft - 1 ∧ s.cntLeft - 1 ≤ 8 := by bv_omega
    rw [busBit_of_armed h.live ha hne]
    exact
      { h with
        inv2 := by simp [State.Inv2, bitCounted, bitTraced, hstart]
        inv4 := by simpa [State.Inv4, bitCounted, bitTraced, hovf] using fun _ => hcnt
        inv5 := ⟨fun hw => hpending (h.inv5.1 hw).1, fun hw => hpending (h.inv5.2 hw)⟩
        aux := ⟨fun _ => ha, h.aux.2⟩ }
  · rw [busBit_of_not_armed (fun hla => ha hla.2)]
    exact { h with }

/-- Every operation of an agent keeps the invariant of a running block. -/
theorem Running.exec_running {i : Instr} {s t : State} (h : Running s)
    (ha : agentOf i ≠ .microOperation) (hn : exec i s = .next t) : Running t := by
  cases i with
  | ovfStop st => exact overflowStep_running h (fun _ hu _ => hu.enterWaitStart_completes) hn
  | ovfWaitStart =>
    exact overflowStep_running (action := fun _ => .fault .ovfInWaitStart) h
      (fun _ hu he => absurd he hu.left) hn
  | ovfAddr => exact overflowStep_running h (fun _ hu _ => hu.decodeAddress_completes) hn
  | ovfPrepSend =>
    exact overflowStep_running_of_serving h (by decide) (fun _ => Serving.doPrepSend_completes) hn
  | ovfSend =>
    exact overflowStep_running_of_serving h (by decide) (fun _ => Serving.afterSend_completes) hn
  | ovfRecvAck =>
    exact overflowStep_running_of_serving h (by decide) (fun _ => Serving.afterRecvAck_completes) hn
  | ovfPrepRecv =>
    exact overflowStep_running_of_serving h (by decide) (fun _ => Serving.doPrepRecv_completes) hn
  | ovfRecv =>
    exact overflowStep_running_of_serving h (by decide) (fun _ => Serving.afterRecv_completes) hn
  | ovfRecvProc =>
    exact overflowStep_running_of_serving h (by decide) (fun _ => Serving.afterRecvProc_completes)
      hn
  | startH => exact guarded_next hn (h.refuse _ _) fun _ he => (h.startBody_completes he).finish
  | gresumePrepSend =>
    exact resumeStep_running h (by decide) (fun _ => Serving.prepSendCont_completes) hn
  | gresumePrepRecv =>
    exact resumeStep_running h (by decide) (fun _ => Serving.prepRecvCont_completes) hn
  | bit m => exact guarded_next hn (h.refuse _ _) fun _ hh => (h.busBit_completes hh m).finish
  | bstart =>
    refine guarded_next hn (h.refuse _ _) fun _ hp hk => ?_
    have hovf : s.ovfFlag = false := by simpa [h.live] using hp.1
    cases hk
    exact { h with inv2 := by simp [State.Inv2, hovf] }
  | bstop =>
    refine guarded_next hn (h.refuse _ _) fun _ _ hk => ?_
    cases hk
    exact { h with }
  | tick =>
    refine guarded_next hn (h.refuse _ _) fun _ _ hk => ?_
    cases hk
    exact { h with }
  | init =>
    refine guarded_next hn (h.refuse _ _) fun _ _ hk => ?_
    rw [if_pos h.live] at hk
    cases hk
    exact h.refuse _ _
  | register a d =>
    refine guarded_next hn (h.refuse _ _) fun _ _ hk => ?_
    rw [if_pos h.live] at hk
    split at hk <;> cases hk <;> exact h.refuse _ _
  | _ => exact absurd rfl ha

/-- What INIT leaves meets the invariant: in WaitStart, with no flag set (R240). -/
theorem Dormant.initState_running {s : State} (h : Dormant s) : Running (initState s) where
  fault := h.fault
  live := rfl
  inv1 := fun _ => ⟨fun _ => rfl, fun _ => rfl⟩
  inv2 := nofun
  inv3 := by simp [initState]
  inv4 := nofun
  inv5 := ⟨nofun, nofun⟩
  inv6 := nofun
  aux := ⟨nofun, nofun⟩

theorem Dormant.insertSlot_dormant {s : State} (h : Dormant s) (a : BusAddr) (d : Dev) :
    Dormant (insertSlot a d s) := by
  unfold insertSlot
  split <;> exact { h with }

/-- No handler is enabled before INIT (R27). -/
theorem Dormant.not_live {P : Prop} {s : State} (h : Dormant s) (hl : s.engLive = true) : P := by
  simp [h.notLive] at hl

theorem overflowStep_dormant {i : Instr} {stop : Bool} {st : EngState}
    {action : State → Micro Unit} {s t : State} (h : Dormant s)
    (hn : overflowStep i stop st action s = .next t) : Dormant t :=
  guarded_next hn (h.refuse _ _) fun _ hp => h.not_live hp.1.1

theorem resumeStep_dormant {i : Instr} {st : EngState} {cont : State → Micro Unit} {s t : State}
    (h : Dormant s) (hn : resumeStep i st cont s = .next t) : Dormant t :=
  guarded_next hn (h.refuse _ _) fun _ hp => h.not_live hp.1.1

/-- Before INIT every operation of an agent leaves the block so, but for INIT. -/
theorem Dormant.exec_running_or_dormant {i : Instr} {s t : State} (h : Dormant s)
    (ha : agentOf i ≠ .microOperation) (hn : exec i s = .next t) : Running t ∨ Dormant t := by
  cases i with
  | ovfStop st => exact .inr (overflowStep_dormant h hn)
  | ovfWaitStart =>
    exact .inr (overflowStep_dormant (action := fun _ => .fault .ovfInWaitStart) h hn)
  | ovfAddr => exact .inr (overflowStep_dormant h hn)
  | ovfPrepSend => exact .inr (overflowStep_dormant h hn)
  | ovfSend => exact .inr (overflowStep_dormant h hn)
  | ovfRecvAck => exact .inr (overflowStep_dormant h hn)
  | ovfPrepRecv => exact .inr (overflowStep_dormant h hn)
  | ovfRecv => exact .inr (overflowStep_dormant h hn)
  | ovfRecvProc => exact .inr (overflowStep_dormant h hn)
  | startH => exact .inr (guarded_next hn (h.refuse _ _) fun _ hp => h.not_live hp.1)
  | gresumePrepSend => exact .inr (resumeStep_dormant h hn)
  | gresumePrepRecv => exact .inr (resumeStep_dormant h hn)
  | bit m =>
    refine .inr (guarded_next hn (h.refuse _ _) fun _ _ hk => ?_)
    rw [busBit_of_not_armed fun hp => h.not_live hp.1] at hk
    cases hk
    exact { h with }
  | bstart =>
    refine .inr (guarded_next hn (h.refuse _ _) fun _ _ hk => ?_)
    cases hk
    exact { h with }
  | bstop =>
    refine .inr (guarded_next hn (h.refuse _ _) fun _ _ hk => ?_)
    cases hk
    exact { h with }
  | tick =>
    refine .inr (guarded_next hn (h.refuse _ _) fun _ _ hk => ?_)
    cases hk
    exact { h with }
  | init =>
    refine guarded_next (Q := fun t => Running t ∨ Dormant t) hn (.inr (h.refuse _ _))
      fun _ _ hk => .inl ?_
    rw [if_neg (by simp [h.notLive])] at hk
    cases hk
    exact h.initState_running
  | register a d =>
    refine .inr (guarded_next hn (h.refuse _ _) fun _ _ hk => ?_)
    rw [if_neg (c := s.engLive = true) (by simp [h.notLive])] at hk
    split at hk <;> cases hk
    · exact h.refuse _ _
    · exact h.insertSlot_dormant _ _
  | _ => exact absurd rfl ha

/-! ### The step -/

/-- Taking an offer writes no field that `Running` and `Dormant` read. -/
theorem fetch_running_or_dormant {s u : State} {o : Offer} (h : Running s ∨ Dormant s)
    (hu : s.fetch = some (o, u)) : Running u ∨ Dormant u := by
  have he := fetch_frame hu
  generalize u.schedule = q, u.program = p at he
  subst he
  exact h.imp (fun hr => { hr with }) fun hd => { hd with }

/-- What an agent's offer may be of is an agent's operation (R200). -/
theorem agent_of_agentOffer {o : Offer} {i : Instr} (ho : agentOffer o = true)
    (hi : decodeOffer o = some i) (ha : offerAllows i o = true) : agentOf i ≠ .microOperation := by
  cases o with
  | word w d => exact of_decide_eq_true ha
  | registerCall a d => cases hi; nofun
  | micro w => cases ho

/-- Settles O53: `Running` or `Dormant` is kept by every agent's operation, and the bounds and the
queues by every step. -/
theorem invariantIsKeptByEveryStep : Obligations.InvariantIsKeptByEveryStep := by
  intro s t hs h
  obtain ⟨hrun, hwidths, hagents⟩ := (inv_iff s).mp hs
  have hkeeps := step_stepKeeps h
  refine (inv_iff t).mpr ⟨?_, hkeeps.widths hwidths, hkeeps.agentsOnly hagents⟩
  obtain ⟨_, o, u, hu, hcase⟩ := step_cases h
  have hrun' := fetch_running_or_dormant hrun hu
  have hrefuse (c : RefusalCode) (w : Option Op16) :
      Running (u.refuse c w) ∨ Dormant (u.refuse c w) :=
    hrun'.imp (fun hr => hr.refuse c w) fun hd => hd.refuse c w
  obtain ⟨i, hi, hallow, hexec⟩ | ⟨_, hinvalid⟩ | ⟨_, _, _, _, rfl⟩ := hcase
  · have ha := agent_of_agentOffer (fetch_agentsOnly hu hagents).1 hi hallow
    obtain hr | hd := hrun'
    · exact .inl (hr.exec_running ha hexec)
    · exact hd.exec_running_or_dormant ha hexec
  · refine guarded_next (Q := fun t => Running t ∨ Dormant t) hinvalid (hrefuse _ _)
      fun _ _ hk => ?_
    cases hk
    exact hrefuse _ _
  · exact hrefuse _ _

/-- Settles O52: at power-on the block is `Dormant`, and its registry and queues are empty. -/
theorem invariantHoldsAtPowerOn : Obligations.InvariantHoldsAtPowerOn := by
  have hany : ∀ s : State, s.hph = .idle → s.engLive = false → s.registry = [] → s.fault = none →
      s.schedule = [] → s.program = [] → s.activeIdx < 2 ^ s.cfg.slotW → s.cntLeft ≤ 8 →
      s.gcnt < 2 ^ s.cfg.guardCntW → s.Inv := by
    intro s hidle hlive hreg hfault hsched hprog hidx hcnt hgcnt
    have hwidths : s.WidthsOk := ⟨hidx, by simp [hreg], hcnt, hgcnt, by simp [hreg]⟩
    exact (inv_iff s).mpr ⟨.inr ⟨hfault, hlive, hidle⟩, hwidths, by simp [hsched], by simp [hprog]⟩
  exact ⟨hany, fun p => hany _ rfl rfl rfl rfl rfl rfl (Nat.two_pow_pos _)
    (show (0 : BitVec 4) ≤ 8 by decide) (Nat.two_pow_pos _)⟩

end Sys2Proof.Machine
end

section
/-! Eight bits of the master while the peripheral is armed: the byte it sends is shifted in, and the
byte the slave drives is shifted out and back in (R63, R220). -/

namespace Sys2Proof.Machine

/-! ### A shift of USR -/

theorem getElem_shiftIn_zero (u : Byte) (d : Bool) : (shiftIn u d)[0] = d := by
  cases d <;> simp [shiftIn]

theorem getElem_shiftIn_succ (u : Byte) (d : Bool) {i : Nat} (hi : i + 1 < 8) :
    (shiftIn u d)[i + 1] = u[i] := by
  cases d <;> simp [shiftIn]

/-- Eight shifts, MSB first, replace USR by the byte (R63). -/
theorem foldl_shiftIn_wireBits (u b : Byte) : (wireBits b).foldl shiftIn u = b := by
  ext i hi
  simp only [wireBits, List.foldl]
  interval_cases i <;> simp [getElem_shiftIn_zero, getElem_shiftIn_succ]

/-- The bits a slave drives from USR in `n` bits the master releases: each shift brings the next one
to bit 7 (R39, R220). -/
def drivenBits : Nat → Byte → List Bool
  | 0, _ => []
  | n + 1, u => u.getLsbD 7 :: drivenBits n (shiftIn u (u.getLsbD 7))

/-- Eight driven bits are the byte in wire order (R63). -/
theorem drivenBits_eight (u : Byte) : drivenBits 8 u = wireBits u := by
  simp [drivenBits, wireBits, getElem_shiftIn_succ]

/-! ### A bit while bits are left -/

/-- The peripheral is armed, `n` bits are left to count, and nothing but the overflow of the last of
them holds SCL. -/
structure Counting (s : State) (n : Nat) : Prop where
  ready : s.Ready
  live : s.engLive = true
  armed : s.armed = true
  left : s.cntLeft = BitVec.ofNat 4 n
  atMost : n ≤ 8
  ovf : s.ovfFlag = decide (n = 0)
  start : s.startFlag = false

theorem Counting.cntLeft_ne_zero {s : State} {n : Nat} (h : Counting s (n + 1)) :
    s.cntLeft ≠ 0 := by
  have hn := h.atMost
  rw [h.left]
  bv_omega

theorem Counting.cntLeft_sub_one {s : State} {n : Nat} (h : Counting s (n + 1)) :
    s.cntLeft - 1 = BitVec.ofNat 4 n := by
  have hn := h.atMost
  rw [h.left]
  bv_omega

/-- A bit of the master is enabled while a bit is left, and is counted (R220). -/
theorem Counting.exec_bit {s : State} {n : Nat} (h : Counting s (n + 1)) (m : Bool) :
    exec (.bit m) s = .next (bitCounted m s) := by
  have hfree : s.sclHeld = false := by simp [State.sclHeld, h.ovf, h.start]
  calc execBit m s
    _ = finish (encode (.bit m)) s (busBit m s) := guarded_of_ready h.ready.1 h.ready.2 hfree
    _ = .next (bitCounted m s) := by
      rw [busBit_of_armed h.live h.armed h.cntLeft_ne_zero]; rfl

/-- A counted bit leaves one bit less, and the overflow when it was the last. -/
theorem Counting.bitCounted_counting {s : State} {n : Nat} (h : Counting s (n + 1)) (m : Bool) :
    Counting (bitCounted m s) n where
  ready := h.ready
  live := h.live
  armed := h.armed
  left := h.cntLeft_sub_one
  atMost := Nat.le_of_succ_le h.atMost
  ovf := by
    have hn := h.atMost
    have hzero : BitVec.ofNat 4 n = 0 ↔ n = 0 := by bv_omega
    simp only [bitCounted, h.cntLeft_sub_one, h.ovf, hzero]
    simp
  start := h.start

theorem Counting.execList_bit_cons {s : State} {n : Nat} (h : Counting s (n + 1)) (m : Bool)
    (is : List Instr) : execList (.bit m :: is) s = execList is (bitCounted m s) := by
  simp only [execList, h.exec_bit m]

/-- With no bit left the counter stands at 0 and its overflow is pending. -/
theorem Counting.execList_nil {s : State} (h : Counting s 0) :
    execList [] s = .next { s with cntLeft := 0, ovfFlag := true } := by
  have hleft : s.cntLeft = 0 := h.left
  have hovf : s.ovfFlag = true := h.ovf
  rw [← hleft, ← hovf]
  rfl

/-! ### A run of bits -/

/-- With SDA released the master's bits are what is sampled and shifted in (R39, R40, R220). -/
theorem execList_bits_of_released (ms : List Bool) : ∀ s : State, Counting s ms.length →
    s.sdaOe = false → execList (ms.map .bit) s = .next
      { s with
        usr := ms.foldl shiftIn s.usr, cntLeft := 0, ovfFlag := true,
        trace := s.trace ++ ms.map fun m => .bit m true m true } := by
  induction ms with
  | nil =>
    intro s h _
    simpa using h.execList_nil
  | cons m ms ih =>
    intro s h hsda
    have hout : s.sOut = true := by simp [State.sOut, hsda]
    rw [List.map_cons, h.execList_bit_cons, ih _ (h.bitCounted_counting m) hsda]
    simp [bitCounted, bitTraced, State.bitEvent, State.sampled, hout, h.armed]

/-- With SDA driven the slave's bits are what is sampled and shifted back in (R39, R40, R220). -/
theorem execList_bits_of_driven (n : Nat) : ∀ s : State, Counting s n →
    s.sdaOe = true → execList (List.replicate n (.bit true)) s = .next
      { s with
        usr := (drivenBits n s.usr).foldl shiftIn s.usr, cntLeft := 0, ovfFlag := true,
        trace := s.trace ++ (drivenBits n s.usr).map fun x => .bit true x x true } := by
  induction n with
  | zero =>
    intro s h _
    simpa [drivenBits] using h.execList_nil
  | succ n ih =>
    intro s h hsda
    have hout : s.sOut = s.usr.getLsbD 7 := by simp [State.sOut, h.live, hsda]
    rw [List.replicate_succ, h.execList_bit_cons, ih _ (h.bitCounted_counting true) hsda]
    simp [bitCounted, bitTraced, State.bitEvent, State.sampled, hout, h.armed, drivenBits]

/-- Settles O29: the eight sampled bits are the master's, and eight shifts leave its byte in USR. -/
theorem eightBitsShiftTheMastersByteIn : Obligations.EightBitsShiftTheMastersByteIn := by
  intro s b hready hlive harmed hcnt hovf hstart hsda
  have h : Counting s 8 := ⟨hready, hlive, harmed, hcnt, le_rfl, hovf, hstart⟩
  rw [execList_bits_of_released (wireBits b) s h hsda, foldl_shiftIn_wireBits]

/-- Settles O30: the eight sampled bits are those of USR, and eight shifts leave them in USR again. -/
theorem eightBitsShiftTheSlavesByteOut : Obligations.EightBitsShiftTheSlavesByteOut := by
  intro s hready hlive harmed hcnt hovf hstart hsda
  have h : Counting s 8 := ⟨hready, hlive, harmed, hcnt, le_rfl, hovf, hstart⟩
  rw [execList_bits_of_driven 8 s h hsda, drivenBits_eight, foldl_shiftIn_wireBits]

end Sys2Proof.Machine
end

section
/-! The decoder against the table: the one row a word matches, and the words that match none. -/

namespace Sys2Proof

open Sys2Proof.Spec

/-! ### Fields of a word -/

/-- A field is read back from below the bits it is put under. -/
theorem extractLsb'_or_field {n : Nat} {q : Op16} (hn : n ≤ 16) (hq : q.extractLsb' 0 n = 0#n)
    (x : BitVec n) : (q ||| x.setWidth 16).extractLsb' 0 n = x := by
  rw [BitVec.extractLsb'_or, hq, BitVec.zero_or]
  ext j hj
  simp [Nat.lt_of_lt_of_le hj hn, BitVec.getLsbD_eq_getElem hj]

/-- A field outside the mask does not change what a word shows of it. -/
theorem or_field_and_mask {n : Nat} {m : Op16}
    (hm : m &&& (BitVec.allOnes n).setWidth 16 = 0#16) (q : Op16) (x : BitVec n) :
    (q ||| x.setWidth 16) &&& m = q &&& m := by
  have hx : x.setWidth 16 = (BitVec.allOnes n).setWidth 16 &&& x.setWidth 16 := by
    rw [← BitVec.setWidth_and, BitVec.allOnes_and]
  rw [BitVec.and_comm, BitVec.and_or_distrib_left, hx, ← BitVec.and_assoc, hm, BitVec.zero_and,
    BitVec.or_zero, BitVec.and_comm]

/-- A word is its CLASS, SUB and OPND fields (R84), so it matches a row where each of them does. -/
theorem and_mask_eq_iff (w m p : Op16) : w &&& m = p ↔
    w.extractLsb' 12 4 &&& m.extractLsb' 12 4 = p.extractLsb' 12 4 ∧
    w.extractLsb' 8 4 &&& m.extractLsb' 8 4 = p.extractLsb' 8 4 ∧
    w.extractLsb' 0 8 &&& m.extractLsb' 0 8 = p.extractLsb' 0 8 := by
  simp only [← BitVec.extractLsb'_and]
  generalize w &&& m = v
  refine ⟨fun h => h ▸ ⟨rfl, rfl, rfl⟩, fun ⟨hclass, hsub, hopnd⟩ => BitVec.eq_of_toNat_eq ?_⟩
  replace hclass := congrArg BitVec.toNat hclass
  replace hsub := congrArg BitVec.toNat hsub
  replace hopnd := congrArg BitVec.toNat hopnd
  simp only [BitVec.extractLsb'_toNat, Nat.shiftRight_eq_div_pow] at hclass hsub hopnd
  omega

/-! ### The row of a word -/

/-- Two rows that one word matches overlap. -/
theorem overlaps_of_matched {w : Op16} {r q : OpRow} (hr : w &&& r.mask = r.pattern)
    (hq : w &&& q.mask = q.pattern) : r.overlaps q = true := by
  refine decide_eq_true ?_
  rw [← hr, ← hq]
  ext j hj
  simp only [BitVec.getElem_and]
  cases w[j] <;> cases r.mask[j] <;> cases q.mask[j] <;> rfl

/-- Where no two rows overlap, the row a word matches is the first it matches. -/
theorem find?_of_matched {w : Op16} {r : OpRow} (hw : w &&& r.mask = r.pattern) (l : List OpRow)
    (hl : l.Pairwise fun r q => r.overlaps q = false) (hr : r ∈ l) :
    (l.find? fun r => decide (w &&& r.mask = r.pattern)) = some r := by
  induction hl with
  | nil => cases hr
  | @cons q rest hq _ ih =>
    obtain _ | ⟨_, hrest⟩ := hr
    · exact List.find?_cons_of_pos (by simpa using hw)
    · have hne : w &&& q.mask ≠ q.pattern := fun h => by
        simpa [overlaps_of_matched h hw] using hq r hrest
      rw [List.find?_cons_of_neg (by simpa using hne)]
      exact ih hrest

/-- A word decodes to the operation of any row of the table that it matches (R84). -/
theorem decode_of_matched {w : Op16} {r : OpRow} (hr : r ∈ opRows) (hw : w &&& r.mask = r.pattern)
    (d : Dev) : decode w d = some (r.build w d) := by
  have hrow : rowOf w = some r := find?_of_matched hw opRows (by decide) hr
  unfold decode decodeOrName
  rw [hrow]

theorem decode_eq_none_iff (w : Op16) (d : Dev) :
    decode w d = none ↔ ∀ r ∈ opRows, w &&& r.mask ≠ r.pattern := by
  have hrow : rowOf w = none ↔ ∀ r ∈ opRows, w &&& r.mask ≠ r.pattern := by simp [rowOf]
  rw [← hrow]
  unfold decode decodeOrName
  cases rowOf w <;> simp

/-! ### The encoding of an operation -/

theorem callRows_subset_opRows : callRows ⊆ opRows :=
  fun _ h => List.mem_append_left _ (List.mem_append_right _ h)

theorem primitiveRows_subset_opRows : primitiveRows ⊆ opRows :=
  fun _ h => List.mem_append_right _ h

/-- A row that an operation's word matches, and that builds the operation of it, decodes it. -/
theorem decode_encode_of_matched {i : Instr} {r : OpRow} {d : Dev} (hr : r ∈ opRows)
    (hw : encode i &&& r.mask = r.pattern) (hb : r.build (encode i) d = i) :
    decode (encode i) d = some i :=
  (decode_of_matched hr hw d).trans (congrArg some hb)

theorem decode_encode_register {a : Nat} (ha : a < 128) (d : Dev) :
    decode (encode (.register a d)) d = some (.register a d) := by
  have haddr : ((encode (.register a d)).extractLsb' 0 7).toNat = a :=
    (congrArg BitVec.toNat (extractLsb'_or_field (by decide) rfl _)).trans
      ((BitVec.toNat_ofNat _ _).trans (Nat.mod_eq_of_lt ha))
  exact decode_encode_of_matched (r := callRows[1]) (callRows_subset_opRows (List.getElem_mem _))
    (or_field_and_mask rfl _ _) (congrArg (Instr.register · d) haddr)

theorem decode_encode_lookup (a : BusAddr) (d : Dev) :
    decode (encode (.lookup a)) d = some (.lookup a) :=
  decode_encode_of_matched (r := callRows[2]) (callRows_subset_opRows (List.getElem_mem _))
    (or_field_and_mask rfl _ a) (congrArg Instr.lookup (extractLsb'_or_field (by decide) rfl a))

theorem decode_encode_rxcall (f : Bool) (b : Byte) (d : Dev) :
    decode (encode (.rxcall f b)) d = some (.rxcall f b) := by
  have hmatch : encode (.rxcall f b) &&& 0xFE00 = 0xC000 :=
    (or_field_and_mask rfl _ b).trans (by cases f <;> rfl)
  have hflag : (encode (.rxcall f b)).getLsbD 8 = f := by cases f <;> simp [encode, bitField]
  have hbyte : (encode (.rxcall f b)).extractLsb' 0 8 = b :=
    extractLsb'_or_field (by decide) (by cases f <;> rfl) b
  exact decode_encode_of_matched (r := callRows[4]) (callRows_subset_opRows (List.getElem_mem _))
    hmatch (congrArg₂ Instr.rxcall hflag hbyte)

theorem decode_encode_lpDrive (b : Byte) (d : Dev) :
    decode (encode (.lpDrive b)) d = some (.lpDrive b) :=
  decode_encode_of_matched (r := primitiveRows[1])
    (primitiveRows_subset_opRows (List.getElem_mem _))
    (or_field_and_mask rfl _ b) (congrArg Instr.lpDrive (extractLsb'_or_field (by decide) rfl b))

/-- Settles O1: a word without operands, or with one of a few values, is decoded as it stands; every
other is a row's pattern with a field in the bits that the row leaves free. -/
theorem decodeOfEncodeIsTheOperation : Obligations.DecodeOfEncodeIsTheOperation := by
  intro i hi
  cases i with
  | ovfStop st => cases st <;> rfl
  | bit m => cases m <;> rfl
  | txcall f => cases f <;> rfl
  | register a d => exact decode_encode_register (of_decide_eq_true hi) d
  | lookup a => exact decode_encode_lookup a _
  | rxcall f b => exact decode_encode_rxcall f b _
  | lpDrive b => exact decode_encode_lpDrive b _
  | _ => rfl

/-- Every row builds a well-formed operation: REGISTER's address is a field of seven bits (R90). -/
theorem build_wellFormed (w : Op16) (d : Dev) : ∀ r ∈ opRows, (r.build w d).wellFormed = true := by
  have haddr : (w.extractLsb' 0 7).toNat < 128 := (w.extractLsb' 0 7).isLt
  simp [opRows, ovfRows, eventRows, callRows, primitiveRows, Instr.wellFormed, haddr,
    -BitVec.extractLsb'_toNat]

/-- Settles O2: a word that decodes is built by a row, whose operation encodes back to the word. -/
theorem encodeOfDecodeIsTheWord : Obligations.EncodeOfDecodeIsTheWord := by
  intro w d i h
  refine ⟨encode_of_decode h, ?_⟩
  obtain ⟨r, hr, -, rfl⟩ := decode_cases h
  exact build_wellFormed w d r hr

/-! ### The reserved words -/

/-- A word matches no row exactly if its fields are as R97 lists: the CLASS leaves at most one row
to compare with, but for classes 0x0, 0x2, 0xD and 0xE, where the SUB is split as well. -/
theorem matches_no_row_iff (w : Op16) :
    (∀ r ∈ opRows, w &&& r.mask ≠ r.pattern) ↔ ReservedWord w := by
  have hst : w.extractLsb' 8 3 = (w.extractLsb' 8 4).extractLsb' 0 3 := by
    ext j hj
    simp [show j < 4 by omega]
  have hfull (opnd : BitVec 8) : opnd &&& 255#8 = opnd := BitVec.and_allOnes
  simp only [ReservedWord, and_mask_eq_iff, hst, opRows, ovfRows, eventRows, callRows,
    primitiveRows, List.forall_mem_append, List.forall_mem_cons, List.not_mem_nil, ne_eq]
  generalize w.extractLsb' 12 4 = cls, w.extractLsb' 8 4 = sub, w.extractLsb' 0 8 = opnd
  clear hst
  obtain ⟨cls, hcls⟩ := cls
  interval_cases cls <;> simp [hfull]
  all_goals
    obtain ⟨sub, hsub⟩ := sub
    interval_cases sub <;> simp

/-- Settles O3: a word decodes to nothing exactly if it matches no row. -/
theorem reservedWordsAreExactlyTheInvalidOnes :
    Obligations.ReservedWordsAreExactlyTheInvalidOnes :=
  fun w d => (decode_eq_none_iff w d).trans (matches_no_row_iff w)

/-- Settles O4: the words are closed, so the decoder computes. -/
theorem wordsOfTheSpecDecodeAsWritten : Obligations.WordsOfTheSpecDecodeAsWritten := by
  unfold Obligations.WordsOfTheSpecDecodeAsWritten
  decide

end Sys2Proof
end

section
/-! The labels of the engine's steps, and what `step` does with each kind of offer. -/

namespace Sys2Proof.Machine

open Sys2Proof.Spec

/-! ### Labels (R103) -/

theorem engineLabel_of_start {s : State} (h : s.StartEnabled) :
    s.engineLabel = some startLabel := if_pos h

theorem engineLabel_of_overflow {s : State} (h : s.OvfEnabled) :
    s.engineLabel = some s.ovfLabel := by
  obtain ⟨_, _, _, hns⟩ := id h
  have hs : ¬ s.StartEnabled := fun ⟨_, _, hs⟩ => Bool.noConfusion (hns.symm.trans hs)
  unfold State.engineLabel
  rw [if_neg hs, if_pos h]

theorem engineLabel_of_resume {s : State} (h : s.ResumeEnabled) :
    s.engineLabel = some s.resumeLabel := by
  obtain ⟨_, hw, _⟩ := id h
  have hi : s.hph ≠ .idle := by simp [hw]
  unfold State.engineLabel
  rw [if_neg fun hs => hi hs.2.1, if_neg fun ho => hi ho.2.1, if_pos h]

/-- The label is that of the step enabled. -/
theorem engineLabel_cases {s : State} {w : Op16} (h : s.engineLabel = some w) :
    w = startLabel ∨ w = s.ovfLabel ∨ w = s.resumeLabel := by
  unfold State.engineLabel at h
  split at h
  · exact .inl (Option.some.inj h).symm
  · split at h
    · exact .inr (.inl (Option.some.inj h).symm)
    · split at h
      · exact .inr (.inr (Option.some.inj h).symm)
      · cases h

theorem decode_startLabel (d : Dev) : decode startLabel d = some .startH := rfl

theorem decode_ovfLabel (s : State) (d : Dev) :
    decode s.ovfLabel d = some (overflowOf s.stopFlag s.engState) := by
  unfold State.ovfLabel
  cases s.stopFlag <;> cases s.engState <;> rfl

/-- The operation a resume label names: only two states can hold a handler at the guard (R134). -/
def resumeOf : EngState → Option Instr
  | .prepSend => some .gresumePrepSend
  | .prepRecv => some .gresumePrepRecv
  | _ => none

theorem decode_resumeLabel (s : State) (d : Dev) :
    decode s.resumeLabel d = resumeOf s.engState := by
  unfold State.resumeLabel
  cases s.engState <;> rfl

theorem resumeOf_of_other {st : EngState} (hs : st ≠ .prepSend) (hr : st ≠ .prepRecv) :
    resumeOf st = none := by
  cases st with
  | prepSend => exact absurd rfl hs
  | prepRecv => exact absurd rfl hr
  | _ => rfl

/-- Settles O8: each of the three conditions fixes the label, and each label decodes to its row. -/
theorem engineLabelNamesTheEnabledStep : Obligations.EngineLabelNamesTheEnabledStep := by
  intro s d
  refine ⟨fun h => ⟨engineLabel_of_start h, decode_startLabel d⟩,
    fun h => ⟨_, engineLabel_of_overflow h, rfl, decode_ovfLabel s d⟩,
    fun h => ⟨_, engineLabel_of_resume h, rfl, ?_⟩⟩
  rw [decode_resumeLabel]
  exact ⟨fun hs => hs ▸ rfl, fun hr => hr ▸ rfl, resumeOf_of_other⟩

theorem agentOf_overflowOf (stop : Bool) (st : EngState) :
    agentOf (overflowOf stop st) = .engine := by
  cases stop <;> cases st <;> rfl

theorem agentOf_resumeOf {st : EngState} {i : Instr} (h : resumeOf st = some i) :
    agentOf i = .engine := by
  cases st <;> cases h <;> rfl

/-- What a label decodes to is the engine's (R68, R103). -/
theorem agentOf_engineLabel {s : State} {w : Op16} {d : Dev} {i : Instr}
    (h : s.engineLabel = some w) (hd : decode w d = some i) : agentOf i = .engine := by
  obtain rfl | rfl | rfl := engineLabel_cases h
  · cases (decode_startLabel d).symm.trans hd; rfl
  · cases (decode_ovfLabel s d).symm.trans hd; exact agentOf_overflowOf _ _
  · exact agentOf_resumeOf ((decode_resumeLabel s d).symm.trans hd)

/-! ### Taking a word that an agent offers -/

theorem takeOffer_of_agents_word {w : Op16} {d : Dev} {i : Instr} (t : State)
    (hd : decode w d = some i) (ha : agentOf i ≠ .microOperation) :
    takeOffer (.word w d) t = exec i t :=
  takeOffer_of_allowed t hd (decide_eq_true ha)

/-- An agent's offer of a micro-operation is no step (R200). -/
theorem takeOffer_of_agents_micro {w : Op16} {d : Dev} {i : Instr} {t : State} (ht : t.Ready)
    (hd : decode w d = some i) (ha : agentOf i = .microOperation) :
    takeOffer (.word w d) t = .refused (.notEnabled w) := by
  rw [takeOffer_of_not_allowed (o := .word w d) t hd (by simp [offerAllows, ha]),
    refuseNoAgentsStep_of_ready i ht.1 ht.2, encode_of_decode hd]

/-- Settles O6: each clause is the offer that `State.fetch` finds, taken. -/
theorem stepFollowsTheEagerSchedule : Obligations.StepFollowsTheEagerSchedule := by
  intro s hf hs
  refine ⟨fun w i hl hd => ?_, fun w d rest i hl hp hd => ?_, fun a d rest hl hp => ?_,
    fun hl hp => ?_⟩
  · rw [step_of_fetch hf (fetch_of_engineLabel hs hl)]
    exact takeOffer_of_agents_word s hd (by simp [agentOf_engineLabel hl hd])
  · rw [step_of_fetch hf (fetch_of_program hs hl hp)]
    exact ⟨takeOffer_of_agents_word _ hd, fun ha hc => takeOffer_of_agents_micro ⟨hf, hc⟩ hd ha⟩
  · rw [step_of_fetch hf (fetch_of_program hs hl hp)]
    exact takeOffer_of_allowed _ rfl rfl
  · rw [step_of_no_fetch hf (fetch_of_nothing hs hl hp)]
    rfl

/-- Settles O7: a reserved word decodes to nothing, so the offer of it is refused. -/
theorem reservedWordsAreRefused : Obligations.ReservedWordsAreRefused := by
  intro s w d rest hready hs hw
  have hd : decodeOffer (.word w d) = none := (reservedWordsAreExactlyTheInvalidOnes w d).mpr hw
  rw [step_of_schedule hready.1 hs, takeOffer_of_invalid _ hd]
  exact guarded_of_ready (s := { s with schedule := rest }) hready.1 hready.2 trivial

/-! ### The word that `State.withFetchWord` offers -/

@[simp] theorem selectFor_fault (i : Instr) (s : State) : (selectFor i s).fault = s.fault := by
  cases i <;> rfl

/-- A table word of 16 bits is decoded as it stands. -/
theorem decode_of_decodeTableWord {w : Nat} {i : Instr} (h : decodeTableWord 16 w = some i) :
    decode (BitVec.ofNat 16 w) Dev.absent = some i := by
  unfold decodeTableWord at h
  split at h
  · exact h
  · cases h

theorem withFetchWord_of_decode {s : State} {w : Nat} {i : Instr}
    (hw : w < 65536) (h : decode (BitVec.ofNat 16 w) Dev.absent = some i) :
    s.withFetchWord 16 w =
      { selectFor i s with schedule := bareOffer (BitVec.ofNat 16 w) i :: s.schedule } := by
  unfold State.withFetchWord offerNext
  rw [Nat.mod_eq_of_lt (show w < 2 ^ 16 from hw), h]

/-- The offer of a bare word is taken as the operation it decodes to, whoever owns it. -/
theorem takeOffer_bareOffer {w : Op16} {i : Instr} (h : decode w Dev.absent = some i) (t : State) :
    takeOffer (bareOffer w i) t = exec i t := by
  by_cases ha : agentOf i = .microOperation
  · rw [bareOffer_of_micro w ha]
    exact takeOffer_of_allowed t h (decide_eq_true ha)
  · rw [bareOffer_of_agent w ha]
    exact takeOffer_of_agents_word t h ha

/-- Where its condition holds, a handler step of a ready state exists. -/
theorem guarded_finish_ne_refused {w l : Op16} {p : Prop} [Decidable p] {s t : State}
    {m : Micro Unit} (hs : s.Ready) (hp : p) (r : Refusal) :
    guarded w p s (finish l t m) ≠ .refused r := by
  rw [guarded_of_ready hs.1 hs.2 hp]
  cases m <;> exact nofun

/-- The engine operation that `selectFor` selects is enabled. -/
theorem exec_selectFor_ne_refused {i : Instr} {s : State} (q : List Offer)
    (ha : agentOf i = .engine) (hs : s.Ready) (r : Refusal) :
    exec i { selectFor i s with schedule := q } ≠ .refused r := by
  have hovf (stop : Bool) (st : EngState) (i : Instr) (m : State → Micro Unit) :
      overflowStep i stop st m { selectOverflow stop st s with schedule := q } ≠ .refused r :=
    guarded_finish_ne_refused (s := { selectOverflow stop st s with schedule := q })
      hs ⟨⟨rfl, rfl, rfl, rfl⟩, rfl, rfl⟩ r
  have hresume (st : EngState) (i : Instr) (m : State → Micro Unit) :
      resumeStep i st m { selectResume st s with schedule := q } ≠ .refused r :=
    guarded_finish_ne_refused (s := { selectResume st s with schedule := q })
      hs ⟨⟨rfl, rfl, rfl⟩, rfl⟩ r
  cases i with
  | ovfStop st => exact hovf true st _ _
  | ovfWaitStart => exact hovf false .waitStart _ fun _ => .fault .ovfInWaitStart
  | ovfAddr => exact hovf false .addr _ _
  | ovfPrepSend => exact hovf false .prepSend _ _
  | ovfSend => exact hovf false .send _ _
  | ovfRecvAck => exact hovf false .recvAck _ _
  | ovfPrepRecv => exact hovf false .prepRecv _ _
  | ovfRecv => exact hovf false .recv _ _
  | ovfRecvProc => exact hovf false .recvProc _ _
  | startH =>
    exact guarded_finish_ne_refused (s := { selectFor .startH s with schedule := q }) hs
      ⟨rfl, rfl, rfl⟩ r
  | gresumePrepSend => exact hresume .prepSend _ _
  | gresumePrepRecv => exact hresume .prepRecv _ _
  | _ => cases ha

/-- Settles O10: the word offered heads the schedule, and `selectFor` sets its label's condition. -/
theorem fetchWordRunsThatOperation : Obligations.FetchWordRunsThatOperation := by
  intro s w i hf hw h
  have hd := decode_of_decodeTableWord h
  refine ⟨?_, fun ha hc => exec_selectFor_ne_refused _ ha ⟨hf, hc⟩ _⟩
  rw [withFetchWord_of_decode hw hd]
  exact (step_of_schedule (s := { selectFor i s with schedule := _ :: s.schedule })
    ((selectFor_fault i s).trans hf) rfl).trans (takeOffer_bareOffer hd _)

/-- Settles O58: the operands are closed, so the expansions compute. -/
theorem pseudoInstructionsExpandAsListed : Obligations.PseudoInstructionsExpandAsListed := by
  unfold Obligations.PseudoInstructionsExpandAsListed
  decide

end Sys2Proof.Machine
end

section
/-! The registry: what a lookup finds, and what a registration does. -/

namespace Sys2Proof

/-- The word of REGISTER holds a seven-bit address as it stands (R90). -/
theorem encode_register_of_lt {a : Nat} (ha : a < 128) (d : Dev) :
    encode (.register a d) = 0x9000 ||| BitVec.ofNat 16 a :=
  congrArg (0x9000 ||| ·) (BitVec.setWidth_ofNat_of_le_of_lt (by decide) ha)

end Sys2Proof

namespace Sys2Proof.Machine

/-! ### Lookup (R112) -/

/-- The model's scan is the library's. -/
theorem firstMatch_eq_findIdx? (l : List Slot) (a : BusAddr) :
    firstMatch l a = l.findIdx? fun r => decide (r.addr = a) := by
  induction l with
  | nil => rfl
  | cons r rest ih => by_cases h : r.addr = a <;> simp [firstMatch, List.findIdx?_cons, h, ih]

theorem lookup_eq_none_iff (s : State) (a : BusAddr) :
    s.lookup a = none ↔ ∀ x ∈ s.registry, x.addr ≠ a := by
  simp [State.lookup, firstMatch_eq_findIdx?]

theorem lookup_eq_some_iff (s : State) (a : BusAddr) (i : Nat) :
    s.lookup a = some i ↔
      (∃ x, s.registry[i]? = some x ∧ x.addr = a) ∧
        ∀ (j : Nat) (y : Slot), j < i → s.registry[j]? = some y → y.addr ≠ a := by
  rw [State.lookup, firstMatch_eq_findIdx?, List.findIdx?_eq_some_iff_getElem]
  simp only [decide_eq_true_eq]
  constructor
  · rintro ⟨hi, hx, hearlier⟩
    refine ⟨⟨_, List.getElem?_eq_getElem hi, hx⟩, fun j y hj hy => ?_⟩
    obtain ⟨_, rfl⟩ := List.getElem?_eq_some_iff.mp hy
    exact hearlier j hj
  · rintro ⟨⟨x, hget, hx⟩, hearlier⟩
    obtain ⟨hi, rfl⟩ := List.getElem?_eq_some_iff.mp hget
    exact ⟨hi, hx, fun j hj => hearlier j _ hj (List.getElem?_eq_getElem (hj.trans hi))⟩

/-- Settles O38: LOOKUP hands back `State.lookup`, the first index of a slot with the address. -/
theorem lookupReturnsTheFirstExactMatch : Obligations.LookupReturnsTheFirstExactMatch := by
  intro s a hs
  exact ⟨s.lookup a, guarded_of_ready hs.1 hs.2 trivial, rfl, lookup_eq_some_iff s a,
    lookup_eq_none_iff s a⟩

/-! ### Registration (R110, R111) -/

/-- A seven-bit address is held exactly if a slot's address has its value. -/
theorem addrTaken_ofNat {a : Nat} (ha : a < 128) (s : State) :
    s.addrTaken (BitVec.ofNat 7 a) = decide (∃ r ∈ s.registry, r.addr.toNat = a) := by
  have haddr (x : BusAddr) : x = BitVec.ofNat 7 a ↔ x.toNat = a := by
    rw [← BitVec.toNat_inj, BitVec.toNat_ofNat, Nat.mod_eq_of_lt ha]
  rw [Bool.eq_iff_iff]
  simp only [State.addrTaken, haddr, List.any_eq_true, decide_eq_true_eq]

theorem insertSlot_of_full {s : State} (h : s.registry.length = s.cfg.regCapacity) (a : BusAddr)
    (d : Dev) : insertSlot a d s = { s with regOvf := true } := if_pos h

theorem insertSlot_of_room {s : State} (h : s.registry.length ≠ s.cfg.regCapacity) (a : BusAddr)
    (d : Dev) :
    insertSlot a d s =
      { s with registry := s.registry ++ [⟨a, d⟩], regDup := s.regDup || s.addrTaken a } :=
  if_neg h

section
variable {s : State} {a : Nat} {d : Dev} (hs : s.Ready) (hd : s.cfg.hasDev d = true)
include hs hd

/-- An address of eight bits or more is refused, before or after INIT (R243; log entry 15). -/
theorem exec_register_of_ge (ha : 128 ≤ a) :
    exec (.register a d) s = .next (s.refuse .addrWidth none) :=
  (guarded_of_ready hs.1 hs.2 hd).trans (by rw [if_pos ha])

/-- A registration after INIT is refused (R114). -/
theorem exec_register_of_live (ha : a < 128) (hl : s.engLive = true) :
    exec (.register a d) s =
      .next (s.refuse .registerAfterInit (some (encode (.register a d)))) :=
  (guarded_of_ready hs.1 hs.2 hd).trans (by rw [if_neg (Nat.not_le.mpr ha), if_pos hl])

/-- Before INIT, a seven-bit address reaches the table (R110). -/
theorem exec_register_of_lt (ha : a < 128) (hl : s.engLive = false) :
    exec (.register a d) s = .next (insertSlot (BitVec.ofNat 7 a) d s) :=
  (guarded_of_ready hs.1 hs.2 hd).trans (by rw [if_neg (Nat.not_le.mpr ha), if_neg (by simp [hl])])

end

/-- Settles O37: each clause is one of the ways a registration ends, with the table's room decided
where it reaches the table. -/
theorem registerAppendsDropsOrIsRefused : Obligations.RegisterAppendsDropsOrIsRefused := by
  intro s a d hs
  refine ⟨fun hd => guarded_of_not_enabled hs.1 hs.2 (by simp [hd]), fun hd ha hl hroom => ?_,
    fun hd ha hl hfull => ?_, fun hd ha hl => ?_, fun hd ha => exec_register_of_ge hs hd ha⟩
  · rw [exec_register_of_lt hs hd ha hl, insertSlot_of_room hroom, addrTaken_ofNat ha]
  · rw [exec_register_of_lt hs hd ha hl, insertSlot_of_full hfull]
  · rw [exec_register_of_live hs hd ha hl, encode_register_of_lt ha]
    rfl

/-! ### A program's registrations (R102) -/

theorem decodeOffer_registerOffer (a : Nat) (d : Dev) :
    decodeOffer (registerOffer a d) = some (.register a d) := by
  obtain ha | ha := Nat.lt_or_ge a 128
  · rw [registerOffer_of_lt d ha]
    exact decode_encode_register ha d
  · rw [registerOffer_of_ge d ha]
    rfl

theorem offerAllows_registerOffer (a : Nat) (d : Dev) :
    offerAllows (.register a d) (registerOffer a d) = true := by
  unfold registerOffer
  split <;> rfl

theorem decodeOffer_offerOf (i : Instr) : decodeOffer (offerOf i) = some i := by
  have hword := decodeOfEncodeIsTheOperation i
  cases i with
  | register a d => exact decodeOffer_registerOffer a d
  | _ => exact hword rfl

/-- A program's first step runs its first registration in the start state of the rest (R102). -/
theorem step_startProgram_cons (p : Config.Params) (a : Nat) (d : p.DevType)
    (regs : List (Nat × p.DevType)) (answers : List (p.DevType × Config.Answer))
    (ops : List Instr) :
    step (startProgram p ((a, d) :: regs) answers ops) =
      exec (.register a d.val) (startProgram p regs answers ops) :=
  (step_of_fetch rfl (fetch_of_program rfl rfl rfl)).trans
    (takeOffer_of_allowed _ (decodeOffer_registerOffer a d.val) (offerAllows_registerOffer a d.val))

/-- Settles O59: the offer of a registration decodes to it on either side of 128, and the first step
runs it on an empty table, which has room (R9). -/
theorem programOffersTheOperationItLists : Obligations.ProgramOffersTheOperationItLists := by
  refine ⟨decodeOffer_offerOf, fun p a d regs answers ops hp => ?_⟩
  rw [step_startProgram_cons]
  have hs : (startProgram p regs answers ops).Ready := ⟨rfl, hp⟩
  have hroom : (startProgram p regs answers ops).registry.length ≠ p.regCapacity :=
    Nat.ne_of_lt hp.1
  refine ⟨fun ha => exec_register_of_ge hs d.property ha, fun ha => ?_⟩
  rw [exec_register_of_lt hs d.property ha rfl, insertSlot_of_room hroom]
  rfl

end Sys2Proof.Machine
end

section
/-! The guard: a tick, G.PREP and G.WAIT, the length of a guard wait, and what goes on after it. -/

namespace Sys2Proof.Machine

open Sys2Proof.Spec

/-! ### The guard's operations (R131 to R133) -/

/-- With a guard, TICK counts and latches the top (R132). -/
theorem guardTick_of_present {s : State} (h : s.cfg.guardPresent = true) :
    guardTick s =
      { s with gcnt := s.gcntNext, gflag := s.gflag || decide (s.gcntNext = s.cfg.guardTop) } := by
  unfold guardTick
  simp only [h, Bool.true_and, if_true]
  cases s.gflag <;> simp

/-- With a guard, G.PREP restarts the count and clears GFLAG (R131). -/
theorem gPrep_of_present {s : State} (h : s.cfg.guardPresent = true) :
    gPrep s = { s with gcnt := s.cfg.guardPreload, gflag := false } := by
  unfold gPrep; simp only [h, if_true]

theorem exec_tick_of_ready {s : State} (hs : s.Ready) : exec .tick s = .next (guardTick s) :=
  guarded_of_ready hs.1 hs.2 trivial

theorem microStep_of_ready {s : State} (hs : s.Ready) (i : Instr) (m : State → Micro Unit) :
    microStep i m s = finish (encode i) s (m s) :=
  guarded_of_ready hs.1 hs.2 trivial

theorem exec_gPrep_of_ready {s : State} (hs : s.Ready) : exec .gPrep s = .next (gPrep s) :=
  microStep_of_ready hs .gPrep fun t => .ok () (gPrep t)

theorem exec_gWait_of_ready {s : State} (hs : s.Ready) :
    exec .gWait s = finish (encode .gWait) s (gWait s) :=
  microStep_of_ready hs .gWait gWait

/-- Settles O33: TICK is enabled in every ready state, and is `guardTick`. -/
theorem tickCountsAndLatchesTheSafeWindow : Obligations.TickCountsAndLatchesTheSafeWindow := by
  intro s hs
  refine ⟨rfl, fun hp => ?_, fun hn => ?_⟩
  · rw [exec_tick_of_ready hs, guardTick_of_present hp]
    rfl
  · rw [exec_tick_of_ready hs, guardTick_of_absent hn]

/-- Settles O34: G.PREP is `gPrep`, and G.WAIT holds exactly where the guard is closed. -/
theorem guardPrepareAndWait : Obligations.GuardPrepareAndWait := by
  intro s hs
  refine ⟨fun hp => ?_, fun hn => ?_, fun ho => ?_, fun hp hg => ?_⟩
  · rw [exec_gPrep_of_ready hs, gPrep_of_present hp]
  · rw [exec_gPrep_of_ready hs, gPrep_of_absent hn]
  · rw [exec_gWait_of_ready hs, gWait_of_open ho]
    rfl
  · rw [exec_gWait_of_ready hs, gWait_of_closed hp hg]
    rfl

/-! ### The length of a guard wait (R136) -/

/-- The last of `n + 1` ticks is a tick after `n`. -/
theorem guardTicks_succ (n : Nat) (s : State) :
    guardTicks (n + 1) s = guardTick (guardTicks n s) := by
  induction n generalizing s with
  | zero => rfl
  | succ n ih => exact ih (guardTick s)

@[simp] theorem guardTicks_cfg (n : Nat) (s : State) : (guardTicks n s).cfg = s.cfg := by
  induction n with
  | zero => rfl
  | succ n ih => rw [guardTicks_succ, guardTick_cfg, ih]

/-- The entry of the overflow handler is G.PREP (R152). -/
theorem entered_eq_gPrep (s : State) : entered s = gPrep s := rfl

/-- Below its top, the counter does not wrap (R9). -/
theorem gcntNext_of_lt_top {s : State} (hc : s.cfg.Wf) (h : s.gcnt < s.cfg.guardTop) :
    s.gcntNext = s.gcnt + 1 := by
  obtain ⟨_, _, _, htop, _⟩ := hc
  exact Nat.mod_eq_of_lt (by omega)

/-- Until the tick number P_GUARD_TICKS the counter counts up from the preload, and that tick, where
it reaches its top, is the one that sets GFLAG. -/
theorem guardTicks_gPrep_of_le {s : State} (hc : s.cfg.Wf) (hp : s.cfg.guardPresent = true)
    {n : Nat} (hn : n ≤ s.cfg.guardTicks) :
    (guardTicks n (gPrep s)).gcnt = s.cfg.guardPreload + n ∧
      (guardTicks n (gPrep s)).gflag = decide (n = s.cfg.guardTicks) := by
  obtain ⟨_, _, hpre, _⟩ := id hc
  have htop : s.cfg.guardPreload + s.cfg.guardTicks = s.cfg.guardTop :=
    Nat.add_sub_cancel' hpre.le
  induction n with
  | zero =>
    rw [guardTicks, gPrep_of_present hp]
    exact ⟨rfl, (decide_eq_false (by omega)).symm⟩
  | succ n ih =>
    obtain ⟨hcnt, hflag⟩ := ih (by omega)
    have hcfg : (guardTicks n (gPrep s)).cfg = s.cfg := guardTicks_cfg n (gPrep s)
    have hnext : (guardTicks n (gPrep s)).gcntNext = s.cfg.guardPreload + n + 1 := by
      rw [gcntNext_of_lt_top (hcfg ▸ hc) (by rw [hcnt, hcfg]; omega), hcnt]
    rw [guardTicks_succ, guardTick_of_present (hcfg ▸ hp), hnext, hflag, hcfg,
      decide_eq_false (by omega), Bool.false_or]
    exact ⟨rfl, decide_eq_decide.mpr (by omega)⟩

/-- No tick clears GFLAG (R132). -/
theorem guardTicks_gflag_of_le {s : State} {m n : Nat} (hmn : m ≤ n)
    (h : (guardTicks m s).gflag = true) : (guardTicks n s).gflag = true := by
  induction n, hmn using Nat.le_induction with
  | base => exact h
  | succ n _ ih => rw [guardTicks_succ, guardTick_gflag, ih, ite_self]

/-- Settles O35: up to P_GUARD_TICKS the count is known, and from then on GFLAG stays set. -/
theorem guardWaitEndsAfterExactlyGuardTicks :
    Obligations.GuardWaitEndsAfterExactlyGuardTicks := by
  intro s n hc hp
  rw [entered_eq_gPrep]
  refine ⟨⟨fun hflag => ?_, fun hn => ?_⟩, fun hn => (guardTicks_gPrep_of_le hc hp hn).1⟩
  · by_contra! hlt
    rw [(guardTicks_gPrep_of_le hc hp hlt.le).2] at hflag
    exact hlt.ne (of_decide_eq_true hflag)
  · exact guardTicks_gflag_of_le hn
      ((guardTicks_gPrep_of_le hc hp le_rfl).2.trans (decide_eq_true rfl))

/-! ### The end of a guard wait (R134) -/

theorem resumeStep_of_enabled {s : State} {st : EngState} (hs : s.Ready) (hr : s.ResumeEnabled)
    (he : s.engState = st) (i : Instr) (cont : State → Micro Unit) :
    resumeStep i st cont s = finish (encode i) s (cont { s with hph := .idle }) :=
  guarded_of_ready hs.1 hs.2 ⟨hr, he⟩

/-- Under the clock hold, the byte a device answers goes on the line (R159). -/
theorem prepSendCont_of_reply {s t : State} {d : Dev} {v : Byte} {m : Bool}
    (hh : s.sclHeld = true) (hd : ActiveDevice s d) (ha : s.drawAnswer d = (.reply v m, t)) :
    prepSendCont s =
      .ok () (sending v { t with calls := t.calls ++ [.tx s.activeIdx s.first v] }) := by
  have hht : t.sclHeld = true := by rw [drawAnswer_frame ha]; exact hh
  rw [prepSendCont, if_pos hd.1, callTransmit_of_reply hd.2 ha, Micro.bind_ok,
    lpDrive_of_held (by exact hht), Micro.andThen_ok, lpArm_eight]
  rfl

theorem prepSendCont_of_stall {s t : State} {d : Dev} (hd : ActiveDevice s d)
    (ha : s.drawAnswer d = (.stall, t)) : prepSendCont s = .hold t.stall := by
  rw [prepSendCont, if_pos hd.1, callTransmit_of_stall hd.2 ha, Micro.bind_hold]

theorem prepSendCont_of_no_active {s : State} (h : s.activeValid = false) :
    prepSendCont s = .fault .noActive := by
  rw [prepSendCont, if_neg (by simp [h])]

/-- The phase of the handler is nothing to the devices. -/
theorem drawAnswer_with_hph {s t : State} {d : Dev} {a : Config.Answer}
    (h : s.drawAnswer d = (a, t)) (p : HandlerPhase) :
    { s with hph := p }.drawAnswer d = (a, { t with hph := p }) := by
  rw [drawAnswer_eq] at h ⊢
  cases h
  rfl

/-- With none chosen, the resume label of a state in which no handler holds is refused (R96). -/
theorem step_of_reserved_resumeLabel {s : State} (hs : s.Ready) (hr : s.ResumeEnabled)
    (hq : s.schedule = []) (h : resumeOf s.engState = none) :
    step s = .next (s.refuse .invalidOp (some s.resumeLabel)) := by
  have hd : decodeOffer (.word s.resumeLabel Dev.absent) = none := (decode_resumeLabel s _).trans h
  rw [step_of_fetch hs.1 (fetch_of_engineLabel hq (engineLabel_of_resume hr)),
    takeOffer_of_invalid s hd]
  exact guarded_of_ready hs.1 hs.2 trivial

/-- Settles O24: the clock is held, so the resumed stretch arms, or ends as its device call does; a
label of no such stretch decodes to nothing. -/
theorem resumeContinuesTheHeldInvocation : Obligations.ResumeContinuesTheHeldInvocation := by
  intro s d hs hr hovf
  have hheld : { s with hph := .idle }.sclHeld = true := by simp [State.sclHeld, hr.1, hovf]
  have hsend (he : s.engState = .prepSend) : exec .gresumePrepSend s =
      finish 0x2200 s (prepSendCont { s with hph := .idle }) :=
    resumeStep_of_enabled hs hr he .gresumePrepSend prepSendCont
  refine ⟨rfl, rfl, fun he => ?_, fun he hv => ?_,
    fun he hd => ⟨fun v m t ha => ?_, fun t ha => ?_⟩, fun hns hnr hq => ?_⟩
  · refine (resumeStep_of_enabled hs hr he .gresumePrepRecv prepRecvCont).trans ?_
    rw [prepRecvCont_of_held hheld]
    rfl
  · rw [hsend he, prepSendCont_of_no_active (by exact hv)]
    rfl
  · rw [hsend he, prepSendCont_of_reply hheld hd (drawAnswer_with_hph ha .idle)]
    rfl
  · rw [hsend he,
      prepSendCont_of_stall (s := { s with hph := .idle }) hd (drawAnswer_with_hph ha .idle)]
    rfl
  · exact step_of_reserved_resumeLabel hs hr hq (resumeOf_of_other hns hnr)

end Sys2Proof.Machine
end

section
/-! Which of the engine's operations has a step: the one that the enabled label names (R103,
R270). -/

namespace Sys2Proof.Machine

open Sys2Proof.Spec

/-! ### What a label says -/

/-- The conditions of the three kinds of label exclude each other, so a label shows its own. -/
theorem enabled_of_engineLabel {s : State} {w : Op16} (h : s.engineLabel = some w) :
    (s.StartEnabled ∧ w = startLabel) ∨ (s.OvfEnabled ∧ w = s.ovfLabel) ∨
      (s.ResumeEnabled ∧ w = s.resumeLabel) := by
  unfold State.engineLabel at h
  split at h
  · rename_i hs; exact .inl ⟨hs, (Option.some.inj h).symm⟩
  · split at h
    · rename_i ho; exact .inr (.inl ⟨ho, (Option.some.inj h).symm⟩)
    · split at h
      · rename_i hr; exact .inr (.inr ⟨hr, (Option.some.inj h).symm⟩)
      · cases h

theorem encode_overflowOf (s : State) : encode (overflowOf s.stopFlag s.engState) = s.ovfLabel :=
  encode_of_decode (decode_ovfLabel s Dev.absent)

theorem wellFormed_of_engine {i : Instr} (ha : agentOf i = .engine) : i.wellFormed = true := by
  cases i with
  | register a d => cases ha
  | _ => rfl

/-- The enabled label is an engine operation's word exactly if that operation is the one that the
start, the overflow or the guard selects. -/
theorem engineLabel_eq_encode_iff {i : Instr} (ha : agentOf i = .engine) (s : State) :
    s.engineLabel = some (encode i) ↔
      (s.StartEnabled ∧ .startH = i) ∨ (s.OvfEnabled ∧ overflowOf s.stopFlag s.engState = i) ∨
        (s.ResumeEnabled ∧ resumeOf s.engState = some i) := by
  have hd := decodeOfEncodeIsTheOperation i (wellFormed_of_engine ha)
  constructor
  · intro h
    obtain ⟨hs, hw⟩ | ⟨ho, hw⟩ | ⟨hr, hw⟩ := enabled_of_engineLabel h <;> rw [hw] at hd
    · exact .inl ⟨hs, Option.some.inj ((decode_startLabel _).symm.trans hd)⟩
    · exact .inr (.inl ⟨ho, Option.some.inj ((decode_ovfLabel s _).symm.trans hd)⟩)
    · exact .inr (.inr ⟨hr, (decode_resumeLabel s _).symm.trans hd⟩)
  · rintro (⟨hs, rfl⟩ | ⟨ho, rfl⟩ | ⟨hr, hi⟩)
    · exact engineLabel_of_start hs
    · rw [encode_overflowOf]; exact engineLabel_of_overflow ho
    · rw [encode_of_decode ((decode_resumeLabel s Dev.absent).trans hi)]
      exact engineLabel_of_resume hr

theorem overflowOf_inj {b c : Bool} {d e : EngState} :
    overflowOf b d = overflowOf c e ↔ b = c ∧ d = e := by
  refine ⟨fun h => ?_, fun ⟨hb, he⟩ => hb ▸ he ▸ rfl⟩
  have hstop (b : Bool) (e : EngState) : (encode (overflowOf b e)).getLsbD 11 = b := by
    cases b <;> cases e <;> rfl
  have hstate (b : Bool) (e : EngState) :
      stateOf ((encode (overflowOf b e)).extractLsb' 8 3) = e := by
    cases b <;> cases e <;> rfl
  exact ⟨by rw [← hstop b d, h, hstop], by rw [← hstate b d, h, hstate]⟩

theorem classOf_overflowOf (b : Bool) (e : EngState) : Laws.classOf (overflowOf b e) = 0x0 := by
  cases b <;> cases e <;> rfl

theorem classOf_resumeOf {e : EngState} {i : Instr} (h : resumeOf e = some i) :
    Laws.classOf i = 0x2 := by
  cases e <;> cases h <;> rfl

theorem startH_ne_overflowOf (b : Bool) (e : EngState) : .startH ≠ overflowOf b e :=
  fun h => absurd (congrArg Laws.classOf h) (by rw [classOf_overflowOf]; decide)

theorem resumeOf_ne_overflowOf (d : EngState) (b : Bool) (e : EngState) :
    resumeOf d ≠ some (overflowOf b e) :=
  fun h => absurd ((classOf_resumeOf h).symm.trans (classOf_overflowOf b e)) (by decide)

theorem resumeOf_ne_startH (e : EngState) : resumeOf e ≠ some .startH :=
  fun h => absurd (classOf_resumeOf h) (by decide)

/-- Only one state resumes as a given operation. -/
theorem resumeOf_eq_some_iff {d e : EngState} {i : Instr} (h : resumeOf e = some i) :
    resumeOf d = some i ↔ d = e := by
  refine ⟨fun hd => ?_, fun hd => hd ▸ h⟩
  cases e <;> cases h <;> cases d <;> cases hd <;> rfl

/-! ### The condition of each operation is that its word is the label -/

theorem engineLabel_eq_start_iff (s : State) :
    s.engineLabel = some (encode .startH) ↔ s.StartEnabled := by
  simp [engineLabel_eq_encode_iff (i := .startH) rfl, (startH_ne_overflowOf _ _).symm,
    resumeOf_ne_startH]

theorem engineLabel_eq_overflow_iff (s : State) (b : Bool) (e : EngState) :
    s.engineLabel = some (encode (overflowOf b e)) ↔
      s.OvfEnabled ∧ s.stopFlag = b ∧ s.engState = e := by
  simp only [engineLabel_eq_encode_iff (agentOf_overflowOf b e), startH_ne_overflowOf,
    resumeOf_ne_overflowOf, overflowOf_inj, and_false, false_or, or_false]

theorem engineLabel_eq_resume_iff (s : State) {e : EngState} {i : Instr}
    (h : resumeOf e = some i) :
    s.engineLabel = some (encode i) ↔ s.ResumeEnabled ∧ s.engState = e := by
  have hs : .startH ≠ i := fun hi => resumeOf_ne_startH e (hi ▸ h)
  have ho : overflowOf s.stopFlag s.engState ≠ i := fun hi => resumeOf_ne_overflowOf e _ _ (hi ▸ h)
  simp only [engineLabel_eq_encode_iff (agentOf_resumeOf h), hs, ho, resumeOf_eq_some_iff h,
    and_false, false_or]

/-- A handler step of a ready state is refused exactly where its condition is false (R15). -/
theorem guarded_finish_not_enabled_iff {w l : Op16} {p : Prop} [Decidable p] {s t : State}
    {m : Micro Unit} (hs : s.Ready) :
    guarded w p s (finish l t m) = .refused (.notEnabled w) ↔ ¬ p :=
  ⟨fun h hp => guarded_finish_ne_refused hs hp _ h, guarded_of_not_enabled hs.1 hs.2⟩

theorem overflowStep_not_enabled_iff {s : State} (hs : s.Ready) (b : Bool) (e : EngState)
    (action : State → Micro Unit) :
    overflowStep (overflowOf b e) b e action s =
        .refused (.notEnabled (encode (overflowOf b e))) ↔
      s.engineLabel ≠ some (encode (overflowOf b e)) :=
  (guarded_finish_not_enabled_iff hs).trans (not_congr (engineLabel_eq_overflow_iff s b e).symm)

theorem resumeStep_not_enabled_iff {s : State} (hs : s.Ready) {e : EngState} {i : Instr}
    (h : resumeOf e = some i) (cont : State → Micro Unit) :
    resumeStep i e cont s = .refused (.notEnabled (encode i)) ↔
      s.engineLabel ≠ some (encode i) :=
  (guarded_finish_not_enabled_iff hs).trans (not_congr (engineLabel_eq_resume_iff s h).symm)

/-- Settles O9: the condition of each engine operation is that its word is the enabled label. -/
theorem engineOperationRunsExactlyUnderItsLabel :
    Obligations.EngineOperationRunsExactlyUnderItsLabel := by
  intro s i hs ha
  cases i with
  | ovfStop st => exact overflowStep_not_enabled_iff hs true st _
  | ovfWaitStart =>
    exact overflowStep_not_enabled_iff hs false .waitStart fun _ => .fault .ovfInWaitStart
  | ovfAddr => exact overflowStep_not_enabled_iff hs false .addr _
  | ovfPrepSend => exact overflowStep_not_enabled_iff hs false .prepSend _
  | ovfSend => exact overflowStep_not_enabled_iff hs false .send _
  | ovfRecvAck => exact overflowStep_not_enabled_iff hs false .recvAck _
  | ovfPrepRecv => exact overflowStep_not_enabled_iff hs false .prepRecv _
  | ovfRecv => exact overflowStep_not_enabled_iff hs false .recv _
  | ovfRecvProc => exact overflowStep_not_enabled_iff hs false .recvProc _
  | startH =>
    exact (guarded_finish_not_enabled_iff hs).trans (not_congr (engineLabel_eq_start_iff s).symm)
  | gresumePrepSend => exact resumeStep_not_enabled_iff hs (e := .prepSend) rfl _
  | gresumePrepRecv => exact resumeStep_not_enabled_iff hs (e := .prepRecv) rfl _
  | _ => cases ha

end Sys2Proof.Machine
end

section
/-! The counter-overflow handler and START.H: the next state of each operation, where it is
enabled. -/

namespace Sys2Proof.Machine

open Sys2Proof.Spec

/-! ### An enabled handler step is its body -/

theorem State.OvfEnabled.held {s : State} (h : s.OvfEnabled) : s.sclHeld = true := by
  obtain ⟨hl, _, hovf, _⟩ := h
  simp [State.sclHeld, hl, hovf]

theorem State.StartEnabled.held {s : State} (h : s.StartEnabled) : s.sclHeld = true := by
  obtain ⟨hl, _, hs⟩ := h
  simp [State.sclHeld, hl, hs]

theorem overflowStep_of_enabled {s : State} {stop : Bool} {st : EngState} (hs : s.Ready)
    (ho : s.OvfEnabled) (hstop : s.stopFlag = stop) (he : s.engState = st) (i : Instr)
    (action : State → Micro Unit) :
    overflowStep i stop st action s = finish (encode i) s (action (gPrep s)) :=
  guarded_of_ready hs.1 hs.2 ⟨ho, hstop, he⟩

/-! ### What the actions leave under the clock hold -/

/-- The slave's ACK is driven and armed (R156, R165). -/
theorem ack_of_held {s : State} (h : s.sclHeld = true) :
    (lpDrive ackDrive s).andThen (lpArm 1) = .ok () (acking s) := by
  rw [lpDrive_of_held h, Micro.andThen_ok, lpArm_one]
  rfl

theorem afterSend_of_held {s : State} (h : s.sclHeld = true) :
    afterSend s = .ok ()
      { s with
        engState := .recvAck, sdaOe := false, armed := true, cntLeft := 1, ovfFlag := false } := by
  rw [afterSend, lpRelSda_of_held (by exact h), Micro.andThen_ok, lpArm_one]

theorem afterRecv_of_held {s : State} (h : s.sclHeld = true) :
    afterRecv s = .ok () (acking { s with rxbuf := s.usr, engState := .recvProc }) :=
  ack_of_held (s := { s with rxbuf := s.usr, engState := .recvProc }) h

theorem startBody_of_held {s : State} (h : s.sclHeld = true) :
    startBody s = .ok () { listening .addr s with stopFlag := false, startFlag := false } := by
  rw [startBody, enterAddr_of_held (by exact h), Micro.andThen_ok]
  rfl

theorem afterRecvAck_of_nack {s : State} (h : s.usr.getLsbD 0 = true) :
    afterRecvAck s = enterWaitStart s := if_pos h

theorem afterRecvAck_of_ack {s : State} (h : s.usr.getLsbD 0 = false) :
    afterRecvAck s = doPrepSend s := if_neg (Bool.eq_false_iff.mp h)

/-! ### The guard wait at the end of an action (R157, R162) -/

/-- With a guard, G.PREP leaves it closed (R131). -/
theorem gPrep_gflag_of_present {s : State} (hp : s.cfg.guardPresent = true) :
    (gPrep s).gflag = false := if_pos hp

theorem doPrepSend_of_present {s : State} (hp : s.cfg.guardPresent = true)
    (hg : s.gflag = false) :
    doPrepSend s = .hold { s with engState := .prepSend, hph := .gwait } := by
  rw [doPrepSend, gWait_of_closed (by exact hp) (by exact hg), Micro.andThen_hold]

theorem doPrepSend_of_absent {s : State} (hn : s.cfg.guardPresent = false) :
    doPrepSend s = prepSendCont { s with engState := .prepSend } := by
  rw [doPrepSend, gWait_of_absent (by exact hn), Micro.andThen_ok]

theorem doPrepRecv_of_present {s : State} (hp : s.cfg.guardPresent = true)
    (hg : s.gflag = false) :
    doPrepRecv s = .hold { s with engState := .prepRecv, hph := .gwait } := by
  rw [doPrepRecv, gWait_of_closed (by exact hp) (by exact hg), Micro.andThen_hold]

theorem doPrepRecv_of_absent {s : State} (hn : s.cfg.guardPresent = false)
    (hh : s.sclHeld = true) : doPrepRecv s = .ok () (listening .recv s) := by
  rw [doPrepRecv, gWait_of_absent (by exact hn), Micro.andThen_ok,
    prepRecvCont_of_held (by exact hh)]
  rfl

/-- The state of the engine is nothing to the devices. -/
theorem drawAnswer_with_engState {s t : State} {d : Dev} {a : Config.Answer}
    (h : s.drawAnswer d = (a, t)) (e : EngState) :
    { s with engState := e }.drawAnswer d = (a, { t with engState := e }) := by
  rw [drawAnswer_eq] at h ⊢
  cases h
  rfl

/-! ### The request of a byte (R157, R159) -/

/-! OVF.PREPSEND, and OVF.RECVACK on an ACK, request a byte; here without a guard wait. -/

section
variable {s : State} (hn : s.cfg.guardPresent = false) (label : Op16)
include hn

theorem finish_doPrepSend_of_no_active (hv : s.activeValid = false) :
    finish label s (doPrepSend (gPrep s)) = .next { s with fault := some (.noActive, label) } := by
  rw [gPrep_of_absent hn, doPrepSend_of_absent hn, prepSendCont_of_no_active (by exact hv)]
  rfl

theorem finish_doPrepSend_of_reply {t : State} {d : Dev} {v : Byte} {m : Bool}
    (hh : s.sclHeld = true) (hd : ActiveDevice s d) (ha : s.drawAnswer d = (.reply v m, t)) :
    finish label s (doPrepSend (gPrep s)) =
      .next (sending v { t with calls := t.calls ++ [.tx s.activeIdx s.first v] }) := by
  rw [gPrep_of_absent hn, doPrepSend_of_absent hn,
    prepSendCont_of_reply (by exact hh) (by exact hd) (drawAnswer_with_engState ha .prepSend)]
  rfl

theorem finish_doPrepSend_of_stall {t : State} {d : Dev} (hd : ActiveDevice s d)
    (ha : s.drawAnswer d = (.stall, t)) :
    finish label s (doPrepSend (gPrep s)) =
      .next { t with engState := .prepSend, hph := .stalled } := by
  rw [gPrep_of_absent hn, doPrepSend_of_absent hn,
    prepSendCont_of_stall (by exact hd) (drawAnswer_with_engState ha .prepSend)]
  rfl

end

/-! ### The obligations -/

/-- Settles O13: under the clock hold, OVF.STOP is the entry of WaitStart. -/
theorem overflowAfterStopEntersWaitStart : Obligations.OverflowAfterStopEntersWaitStart := by
  intro s hs ho hstop
  refine ⟨rfl, (overflowStep_of_enabled hs ho hstop rfl _ _).trans ?_⟩
  rw [enterWaitStart_of_held (s := gPrep s) ho.held]
  rfl

/-- Settles O14: the action is the fault; under the invariant no handler is entered in WaitStart. -/
theorem overflowInWaitStartFaults : Obligations.OverflowInWaitStartFaults := by
  intro s hs ho hstop he
  refine ⟨rfl, overflowStep_of_enabled hs ho hstop he .ovfWaitStart fun _ => .fault .ovfInWaitStart,
    fun hinv => ?_⟩
  obtain ⟨hrun | hdormant, -⟩ := (inv_iff s).mp hinv
  · exact (hrun.handling ho).left he
  · exact hdormant.not_live ho.1

/-- Settles O15: the decode ends in the entry of WaitStart, or in the ACK of the slot found. -/
theorem addressByteIsDecodedAgainstTheRegistry :
    Obligations.AddressByteIsDecodedAgainstTheRegistry := by
  intro s hs ho hstop he
  have hbody : exec .ovfAddr s = finish 0x0100 s (decodeAddress (gPrep s)) :=
    overflowStep_of_enabled hs ho hstop he .ovfAddr decodeAddress
  refine ⟨rfl, fun hl => ?_, fun r hl => ?_⟩
  · rw [hbody, decodeAddress_of_no_match (by exact hl), enterWaitStart_of_held (by exact ho.held)]
    rfl
  · rw [hbody, decodeAddress_of_match (by exact hl), ack_of_held (by exact ho.held)]
    rfl

/-- Settles O16: the action is the guard wait, and without a guard the request of a byte. -/
theorem prepSendFetchesTheByteOrWaits : Obligations.PrepSendFetchesTheByteOrWaits := by
  intro s d hs ho hstop he
  have hbody : exec .ovfPrepSend s = finish 0x0200 s (doPrepSend (gPrep s)) :=
    overflowStep_of_enabled hs ho hstop he .ovfPrepSend doPrepSend
  refine ⟨rfl, fun hp => ?_, fun hn hv => ?_, fun hn hd => ⟨fun v m t ha => ?_, fun t ha => ?_⟩⟩
  · rw [hbody, doPrepSend_of_present (s := gPrep s) hp (gPrep_gflag_of_present hp), ← he]
    rfl
  · rw [hbody, finish_doPrepSend_of_no_active hn _ hv]
  · rw [hbody, finish_doPrepSend_of_reply hn _ ho.held hd ha]
  · have het : t.engState = .prepSend := by rw [drawAnswer_frame ha]; exact he
    rw [hbody, finish_doPrepSend_of_stall hn _ hd ha, ← het]

/-- Settles O17: the action is SDA released under the clock hold, and armed. -/
theorem sendReleasesDataLineForTheMastersAck :
    Obligations.SendReleasesDataLineForTheMastersAck := by
  intro s hs ho hstop he
  refine ⟨rfl, (overflowStep_of_enabled hs ho hstop he .ovfSend afterSend).trans ?_⟩
  rw [afterSend_of_held (s := gPrep s) ho.held]
  rfl

/-- Settles O18: a NACK is the entry of WaitStart, an ACK the action of OVF.PREPSEND. -/
theorem mastersAckContinuesAndNackEnds : Obligations.MastersAckContinuesAndNackEnds := by
  intro s d hs ho hstop he
  have hbody : exec .ovfRecvAck s = finish 0x0400 s (afterRecvAck (gPrep s)) :=
    overflowStep_of_enabled hs ho hstop he .ovfRecvAck afterRecvAck
  have hack (h : s.usr.getLsbD 0 = false) :
      exec .ovfRecvAck s = finish 0x0400 s (doPrepSend (gPrep s)) := by
    rw [hbody, afterRecvAck_of_ack (by exact h)]
  refine ⟨rfl, fun h => ?_, fun h hp => ?_, fun h hn hv => ?_,
    fun h hn hd => ⟨fun v m t ha => ?_, fun t ha => ?_⟩⟩
  · rw [hbody, afterRecvAck_of_nack (by exact h), enterWaitStart_of_held (by exact ho.held)]
    rfl
  · rw [hack h, doPrepSend_of_present (s := gPrep s) hp (gPrep_gflag_of_present hp)]
    rfl
  · rw [hack h, finish_doPrepSend_of_no_active hn _ hv]
  · rw [hack h, finish_doPrepSend_of_reply hn _ ho.held hd ha]
  · rw [hack h, finish_doPrepSend_of_stall hn _ hd ha]

/-- Settles O19: the action is the guard wait, and without a guard the arming for a byte. -/
theorem prepRecvArmsForTheNextByteOrWaits : Obligations.PrepRecvArmsForTheNextByteOrWaits := by
  intro s hs ho hstop he
  have hbody : exec .ovfPrepRecv s = finish 0x0500 s (doPrepRecv (gPrep s)) :=
    overflowStep_of_enabled hs ho hstop he .ovfPrepRecv doPrepRecv
  refine ⟨rfl, fun hp => ?_, fun hn => ?_⟩
  · rw [hbody, doPrepRecv_of_present (s := gPrep s) hp (gPrep_gflag_of_present hp), ← he]
    rfl
  · rw [hbody, gPrep_of_absent hn, doPrepRecv_of_absent hn ho.held]
    rfl

/-- Settles O20: the action is the stash and the ACK under the clock hold; no call is in it. -/
theorem receivedByteIsStashedAndAcked : Obligations.ReceivedByteIsStashedAndAcked := by
  intro s hs ho hstop he
  refine ⟨rfl, (overflowStep_of_enabled hs ho hstop he .ovfRecv afterRecv).trans ?_⟩
  rw [afterRecv_of_held (s := gPrep s) ho.held]
  rfl

/-! ### The hand-over of a byte (R166) -/

theorem afterRecvProc_of_no_active {s : State} (h : s.activeValid = false) :
    afterRecvProc s = .fault .noActive := by
  rw [afterRecvProc, if_neg (by simp [h])]

/-- The device's answer decides what follows in the same invocation. -/
theorem afterRecvProc_of_reply {s t : State} {d : Dev} {v : Byte} {c : Bool}
    (hd : ActiveDevice s d) (ha : s.drawAnswer d = (.reply v c, t)) :
    afterRecvProc s = (if c = true then doPrepRecv else enterAddr)
      { t with calls := t.calls ++ [.rx s.activeIdx s.first s.rxbuf c], first := false } := by
  rw [afterRecvProc, if_pos hd.1, callReceive_of_reply hd.2 ha, Micro.bind_ok]
  cases c <;> rfl

theorem afterRecvProc_of_stall {s t : State} {d : Dev} (hd : ActiveDevice s d)
    (ha : s.drawAnswer d = (.stall, t)) : afterRecvProc s = .hold t.stall := by
  rw [afterRecvProc, if_pos hd.1, callReceive_of_stall hd.2 ha, Micro.bind_hold]

/-- A device's answer does not release the clock. -/
theorem drawAnswer_sclHeld {s t : State} {d : Dev} {a : Config.Answer}
    (h : s.drawAnswer d = (a, t)) : t.sclHeld = s.sclHeld := by
  rw [drawAnswer_frame h]
  rfl

/-- Settles O21: the call ends the invocation, or its answer selects the action that follows, which
finds the clock hold and the guard as the call did. -/
theorem stashedByteGoesToTheActiveDevice : Obligations.StashedByteGoesToTheActiveDevice := by
  intro s d hs ho hstop he
  have hbody : exec .ovfRecvProc s = finish 0x0700 s (afterRecvProc (gPrep s)) :=
    overflowStep_of_enabled hs ho hstop he .ovfRecvProc afterRecvProc
  refine ⟨rfl, fun hv => ?_, fun hd v t ha hp => ?_, fun hd v t ha hn => ?_, fun hd v t ha => ?_,
    fun hd t ha => ?_⟩
  · rw [hbody, afterRecvProc_of_no_active (by exact hv)]
    rfl
  · have hpt : t.cfg.guardPresent = true := (drawAnswer_keeps ha).cfg ▸ hp
    have hg : t.gflag = false := by
      rw [drawAnswer_frame ha]; exact gPrep_gflag_of_present hp
    rw [hbody, afterRecvProc_of_reply (s := gPrep s) hd ha, if_pos rfl,
      doPrepRecv_of_present (by exact hpt) (by exact hg)]
    rfl
  · have hnt : t.cfg.guardPresent = false := (drawAnswer_keeps ha).cfg ▸ hn
    have hht : t.sclHeld = true := (drawAnswer_sclHeld ha).trans ho.held
    rw [hbody, afterRecvProc_of_reply (s := gPrep s) hd ha, if_pos rfl,
      doPrepRecv_of_absent (by exact hnt) (by exact hht)]
    rfl
  · have hht : t.sclHeld = true := (drawAnswer_sclHeld ha).trans ho.held
    rw [hbody, afterRecvProc_of_reply (s := gPrep s) hd ha, if_neg nofun,
      enterAddr_of_held (by exact hht)]
    rfl
  · rw [hbody, afterRecvProc_of_stall (s := gPrep s) hd ha]
    rfl

/-- Settles O23: a pending start holds the clock, so the body arms for an address. -/
theorem startHandlerRearmsForAnAddress : Obligations.StartHandlerRearmsForAnAddress := by
  intro s hs h
  refine ⟨rfl, (guarded_of_ready hs.1 hs.2 h).trans ?_⟩
  rw [startBody_of_held h.held]
  rfl

end Sys2Proof.Machine
end

section
/-! An address phase (R156, R168): eight bits in, the decode, and the ninth bit. -/

namespace Sys2Proof.Machine

open Sys2Proof.Spec

theorem execList_append_of_next {is : List Instr} {s t : State} (h : execList is s = .next t)
    (js : List Instr) : execList (is ++ js) s = execList js t := by
  induction is generalizing s with
  | nil => cases h; rfl
  | cons i is ih =>
    simp only [List.cons_append, execList] at h ⊢
    cases hi : exec i s with
    | next u => rw [hi] at h; exact ih h
    | fault f => rw [hi] at h; cases h
    | refused r => rw [hi] at h; cases h

theorem execList_cons_of_next {i : Instr} {s t : State} (h : exec i s = .next t)
    (is : List Instr) : execList (i :: is) s = execList is t := by
  simp only [execList, h]

theorem execList_singleton_of_next {i : Instr} {s t : State} (h : exec i s = .next t) :
    execList [i] s = .next t :=
  execList_cons_of_next h []

/-- A bit of the master while nothing is armed and nothing holds SCL is traced only (R220). -/
theorem exec_bit_of_not_armed {s : State} (hs : s.Ready) (hfree : s.sclHeld = false)
    (ha : s.armed = false) (m : Bool) : exec (.bit m) s = .next (bitTraced m s) := by
  refine (guarded_of_ready hs.1 hs.2 hfree).trans ?_
  rw [busBit_of_not_armed (by simp [ha])]
  rfl

/-- What the eight bits of the byte `b` leave before the decode (R220). -/
def byteReceived (b : Byte) (s : State) : State :=
  { s with
    usr := b, cntLeft := 0, ovfFlag := true,
    trace := s.trace ++ (wireBits b).map fun m => .bit m true m true }

/-- What the decode leaves on a match in slot `r`: the ACK driven, armed for one bit (R156). -/
def addressAcked (b : Byte) (r : Nat) (s : State) : State :=
  acking (addressSlot r (entered (byteReceived b s)))

theorem idleBus_sOut (s : State) : (idleBus s).sOut = true := by
  simp [State.sOut, idleBus]

theorem idleBus_sclHeld {s : State} (h : s.startFlag = false) : (idleBus s).sclHeld = false := by
  simp [State.sclHeld, idleBus, h]

/-- A running slave pulls SDA low for its ACK (R83, R95). -/
theorem acking_sOut {s : State} (h : s.engLive = true) : (acking s).sOut = false := by
  simp [State.sOut, acking, h]

/-- The engine listens for an address, with no flag set: the hypotheses of an address phase. -/
structure AwaitsAddress (s : State) : Prop where
  ready : s.Ready
  live : s.engLive = true
  idle : s.hph = .idle
  inAddr : s.engState = .addr
  armed : s.armed = true
  left : s.cntLeft = 8
  ovf : s.ovfFlag = false
  start : s.startFlag = false
  stop : s.stopFlag = false
  released : s.sdaOe = false

section
variable {s : State} (h : AwaitsAddress s) (b : Byte)
include h

/-- Eight bits and the decode are the decode of the byte received (R156). -/
theorem AwaitsAddress.execList_address (is : List Instr) {t : State}
    (ht : exec .ovfAddr (byteReceived b s) = .next t) :
    execList ((wireBits b).map .bit ++ .ovfAddr :: is) s = execList is t := by
  have hbits : execList ((wireBits b).map .bit) s = .next (byteReceived b s) :=
    eightBitsShiftTheMastersByteIn s b h.ready h.live h.armed h.left h.ovf h.start h.released
  rw [execList_append_of_next hbits, execList_cons_of_next ht]

/-- An address that no slot holds: the ninth bit finds SDA released and nothing armed. -/
theorem AwaitsAddress.execList_of_no_match (hl : s.lookup (addrOf b) = none) :
    execList ((wireBits b).map .bit ++ [.ovfAddr, .bit true]) s =
      .next (bitTraced true (idleBus (entered (byteReceived b s)))) := by
  obtain ⟨-, hnone, -⟩ := addressByteIsDecodedAgainstTheRegistry (byteReceived b s) h.ready
    ⟨h.live, h.idle, rfl, h.start⟩ h.stop h.inAddr
  rw [h.execList_address b [.bit true] (hnone hl)]
  exact execList_singleton_of_next (exec_bit_of_not_armed
    (s := idleBus (entered (byteReceived b s))) h.ready (idleBus_sclHeld h.start) rfl true)

/-- The ACK of a match is counted as the ninth bit. -/
theorem AwaitsAddress.addressAcked_counting (r : Nat) : Counting (addressAcked b r s) 1 :=
  ⟨h.ready, h.live, rfl, rfl, by decide, rfl, h.start⟩

theorem AwaitsAddress.execList_of_match {r : Nat} (hl : s.lookup (addrOf b) = some r) :
    execList ((wireBits b).map .bit ++ [.ovfAddr, .bit true]) s =
      .next (bitCounted true (addressAcked b r s)) := by
  obtain ⟨-, -, hsome⟩ := addressByteIsDecodedAgainstTheRegistry (byteReceived b s) h.ready
    ⟨h.live, h.idle, rfl, h.start⟩ h.stop h.inAddr
  rw [h.execList_address b [.bit true] (hsome r hl)]
  exact execList_singleton_of_next ((h.addressAcked_counting b r).exec_bit true)

end

/-- Settles O31: the decode of the byte received finds no slot, and the ninth bit is only traced; or
it finds one, and the ninth bit shifts the driven ACK out. -/
theorem addressPhaseAcksExactlyRegisteredAddresses :
    Obligations.AddressPhaseAcksExactlyRegisteredAddresses := by
  intro s b hready hlive hidle hst harmed hleft hovf hstart hstop hsda
  have h : AwaitsAddress s :=
    ⟨hready, hlive, hidle, hst, harmed, hleft, hovf, hstart, hstop, hsda⟩
  cases hl : s.lookup (addrOf b) with
  | none =>
    refine ⟨_, h.execList_of_no_match b hl, rfl, rfl, rfl, rfl,
      fun _ => ⟨rfl, rfl, rfl, rfl, ?_⟩, nofun⟩
    simp only [bitTraced, State.bitEvent, State.sampled, idleBus_sOut]
    rfl
  | some r =>
    have hpending : (bitCounted true (addressAcked b r s)).ovfFlag = true :=
      ((h.addressAcked_counting b r).bitCounted_counting true).ovf
    have hout : (addressAcked b r s).sOut = false := acking_sOut hlive
    refine ⟨_, h.execList_of_match b hl, rfl, rfl, rfl, rfl, nofun, fun q hq => ?_⟩
    cases hq
    refine ⟨rfl, rfl, rfl, rfl, hpending, ?_⟩
    simp only [bitCounted, bitTraced, State.bitEvent, State.sampled, hout]
    rfl

end Sys2Proof.Machine
end

section
/-! Capability calls (R170, R172): one handler step makes at most one, to the active slot with
FIRST, which it clears. -/

namespace Sys2Proof.Machine

/-! ### Between two states of a handler -/

/-- CALLS, and the fields that a call hands to a device, are as they were. -/
structure SameCaller (s t : State) : Prop where
  calls : t.calls = s.calls := by rfl
  first : t.first = s.first := by rfl
  activeIdx : t.activeIdx = s.activeIdx := by rfl
  rxbuf : t.rxbuf = s.rxbuf := by rfl

theorem SameCaller.trans {s t u : State} (h : SameCaller s t) (k : SameCaller t u) :
    SameCaller s u where
  calls := k.calls.trans h.calls
  first := k.first.trans h.first
  activeIdx := k.activeIdx.trans h.activeIdx
  rxbuf := k.rxbuf.trans h.rxbuf

/-- No call, and FIRST is not set; or one call from `s`, and FIRST is cleared. -/
inductive CallsOnce (s t : State) : Prop
  | silent (hc : t.calls = s.calls) (hf : t.first = true → s.first = true)
  | tx (v : Byte) (hc : t.calls = s.calls ++ [.tx s.activeIdx s.first v]) (hf : t.first = false)
  | rx (c : Bool) (hc : t.calls = s.calls ++ [.rx s.activeIdx s.first s.rxbuf c])
      (hf : t.first = false)

theorem SameCaller.callsOnce {s t : State} (h : SameCaller s t) : CallsOnce s t :=
  .silent h.calls fun hf => h.first ▸ hf

/-- A call from a state with the same caller is a call from the first. -/
theorem SameCaller.callsOnce_trans {s t u : State} (h : SameCaller s t) (k : CallsOnce t u) :
    CallsOnce s u := by
  obtain ⟨hcalls, hfirst, hidx, hrx⟩ := h
  cases k with
  | silent hc hf => exact .silent (hc.trans hcalls) fun hu => hfirst ▸ hf hu
  | tx v hc hf => exact .tx v (by rw [hc, hcalls, hidx, hfirst]) hf
  | rx c hc hf => exact .rx c (by rw [hc, hcalls, hidx, hfirst, hrx]) hf

/-- What follows a call without making one leaves the one call. -/
theorem CallsOnce.trans_sameCaller {s t u : State} (k : CallsOnce s t) (h : SameCaller t u) :
    CallsOnce s u := by
  cases k with
  | silent hc hf => exact .silent (h.calls.trans hc) fun hu => hf (h.first ▸ hu)
  | tx v hc hf => exact .tx v (h.calls.trans hc) (h.first.trans hf)
  | rx c hc hf => exact .rx c (h.calls.trans hc) (h.first.trans hf)

/-! ### Stretches without a call -/

/-- The stretch `m` makes no call and writes no field that a call hands over. -/
def Silent {α : Type} (m : State → Micro α) : Prop := ∀ s, (m s).Leaves (SameCaller s)

/-- Where the first stretch holds, it ends; else the second goes on from where it ended. -/
theorem Micro.Leaves.andThen {P Q : State → Prop} {m : Micro Unit} {g : State → Micro Unit}
    (hm : m.Leaves P) (hhold : ∀ t, P t → Q t) (hg : ∀ t, P t → (g t).Leaves Q) :
    (m.andThen g).Leaves Q := by
  cases m with
  | ok a t => exact hg t hm
  | hold t => exact hhold t hm
  | fault c => trivial

theorem Silent.andThen {m g : State → Micro Unit} (hm : Silent m) (hg : Silent g) :
    Silent fun s => (m s).andThen g :=
  fun s => (hm s).andThen (fun _ => id) fun t ht => (hg t).imp fun _ => ht.trans

/-- A write of no caller's field, made before the stretch. -/
theorem Silent.after {α : Type} {m : State → Micro α} {u : State → State} (hm : Silent m)
    (hu : ∀ s : State, SameCaller s (u s)) : Silent fun s => m (u s) :=
  fun s => (hm (u s)).imp fun _ => (hu s).trans

theorem Silent.ite {α : Type} {c : State → Prop} [DecidablePred c] {m n : State → Micro α}
    (hm : Silent m) (hn : Silent n) : Silent fun s => if c s then m s else n s := by
  intro s
  by_cases h : c s
  · simp only [if_pos h]; exact hm s
  · simp only [if_neg h]; exact hn s

theorem fault_silent {α : Type} (c : FaultCode) : Silent fun _ => (.fault c : Micro α) :=
  fun _ => trivial

theorem lpRelSda_silent : Silent lpRelSda := .ite (fun _ => {}) (fault_silent _)

theorem lpDrive_silent (b : Byte) : Silent (lpDrive b) := .ite (fun _ => {}) (fault_silent _)

theorem lpArmStart_silent : Silent lpArmStart := .ite (fun _ => {}) (fault_silent _)

theorem lpArm_silent (n : Nat) : Silent (lpArm n) := .ite (fun _ => {}) (fault_silent _)

theorem gWait_silent : Silent gWait := .ite (fun _ => {}) (fun _ => {})

theorem enterWaitStart_silent : Silent enterWaitStart := lpArmStart_silent.after fun _ => {}

theorem enterAddr_silent : Silent enterAddr :=
  .andThen (lpRelSda_silent.after fun _ => {}) (lpArm_silent 8)

theorem prepRecvCont_silent : Silent prepRecvCont :=
  .andThen (lpRelSda_silent.after fun _ => {}) (lpArm_silent 8)

theorem doPrepRecv_silent : Silent doPrepRecv :=
  .andThen (gWait_silent.after fun _ => {}) prepRecvCont_silent

theorem afterSend_silent : Silent afterSend :=
  .andThen (lpRelSda_silent.after fun _ => {}) (lpArm_silent 1)

theorem startBody_silent : Silent startBody :=
  .andThen (enterAddr_silent.after fun _ => {}) (fun _ => {})

theorem driveAck_silent : Silent fun s => (lpDrive ackDrive s).andThen (lpArm 1) :=
  .andThen (lpDrive_silent _) (lpArm_silent 1)

/-! ### Stretches with at most one call -/

/-- The stretch `m` makes at most one call, from the state it begins in. -/
def CallsAtMostOnce (m : State → Micro Unit) : Prop := ∀ s, (m s).Leaves (CallsOnce s)

theorem Silent.callsAtMostOnce {m : State → Micro Unit} (hm : Silent m) : CallsAtMostOnce m :=
  fun s => (hm s).imp fun _ => SameCaller.callsOnce

theorem drawAnswer_sameCaller {s t : State} {d : Dev} {a : Config.Answer}
    (h : s.drawAnswer d = (a, t)) : SameCaller s t := by
  rw [drawAnswer_frame h]; exact {}

/-- The one transmit call hands over FIRST, and what follows it clears FIRST (R159). -/
theorem prepSendCont_callsAtMostOnce : CallsAtMostOnce prepSendCont := by
  intro s
  unfold prepSendCont
  split
  · cases hd : s.slotDev? s.activeIdx with
    | none => rw [callTransmit_of_no_device hd]; trivial
    | some d =>
      rcases ha : s.drawAnswer d with ⟨⟨v, m⟩ | _, t⟩ <;> have hst := drawAnswer_sameCaller ha
      · rw [callTransmit_of_reply hd ha, Micro.bind_ok]
        have hsent : Silent fun t => (lpDrive v t).andThen (lpArm 8) :=
          .andThen (lpDrive_silent v) (lpArm_silent 8)
        exact (hsent _).imp fun _ =>
          (CallsOnce.tx (t := { t with first := false, calls := t.calls ++ _, engState := .send }) v
            (by rw [hst.calls]) rfl).trans_sameCaller
      · rw [callTransmit_of_stall hd ha]
        exact (hst.trans {}).callsOnce
  · trivial

theorem doPrepSend_callsAtMostOnce : CallsAtMostOnce doPrepSend := fun s =>
  (gWait_silent.after (u := fun s => { s with engState := .prepSend }) (fun _ => {}) s).andThen
    (fun _ => SameCaller.callsOnce) fun t ht =>
    (prepSendCont_callsAtMostOnce t).imp fun _ => ht.callsOnce_trans

theorem afterRecvAck_callsAtMostOnce : CallsAtMostOnce afterRecvAck := by
  intro s
  unfold afterRecvAck
  split
  · exact enterWaitStart_silent.callsAtMostOnce s
  · exact doPrepSend_callsAtMostOnce s

/-- OVF.RECV stashes the byte for a later call, and makes none (R165). -/
theorem afterRecv_callsAtMostOnce : CallsAtMostOnce afterRecv := fun s =>
  (driveAck_silent { s with rxbuf := s.usr, engState := .recvProc }).imp fun _ hu =>
    .silent hu.calls fun hf => hu.first ▸ hf

/-- The one receive call hands over FIRST and RXBUF, and FIRST is cleared next (R166). -/
theorem afterRecvProc_callsAtMostOnce : CallsAtMostOnce afterRecvProc := by
  intro s
  unfold afterRecvProc
  split
  · cases hd : s.slotDev? s.activeIdx with
    | none => rw [callReceive_of_no_device hd]; trivial
    | some d =>
      rcases ha : s.drawAnswer d with ⟨⟨v, c⟩ | _, t⟩ <;> have hst := drawAnswer_sameCaller ha
      · rw [callReceive_of_reply hd ha, Micro.bind_ok]
        have hnext : Silent fun t => if c = true then doPrepRecv t else enterAddr t :=
          .ite doPrepRecv_silent enterAddr_silent
        exact (hnext _).imp fun _ =>
          (CallsOnce.rx (t := { t with first := false, calls := t.calls ++ _ }) c
            (by rw [hst.calls]) rfl).trans_sameCaller
      · rw [callReceive_of_stall hd ha]
        exact (hst.trans {}).callsOnce
  · trivial

/-! ### Operations -/

theorem finish_callsOnce {l : Op16} {s t : State} {m : Micro Unit} (hm : m.Leaves (CallsOnce s))
    (h : finish l s m = .next t) : CallsOnce s t := by
  obtain ht | ⟨c, rfl⟩ := finish_next hm h
  · exact ht
  · exact .silent rfl id

/-- A guarded step calls at most once if its body does, where it is enabled. -/
theorem guarded_callsOnce {w : Op16} {p : Prop} [Decidable p] {s t : State}
    {k : Host.Outcome State Fault Refusal} (h : guarded w p s k = .next t)
    (hk : p → k = .next t → CallsOnce s t) : CallsOnce s t :=
  guarded_next h (.silent rfl id) fun _ => hk

theorem overflowStep_callsOnce {i : Instr} {stop : Bool} {st : EngState}
    {action : State → Micro Unit} {s t : State} (ha : CallsAtMostOnce action)
    (h : overflowStep i stop st action s = .next t) : CallsOnce s t :=
  guarded_callsOnce h fun _ => finish_callsOnce <| (ha (gPrep s)).imp fun _ =>
    SameCaller.callsOnce_trans (t := gPrep s) {}

theorem resumeStep_callsOnce {i : Instr} {st : EngState} {cont : State → Micro Unit} {s t : State}
    (hc : CallsAtMostOnce cont) (h : resumeStep i st cont s = .next t) : CallsOnce s t :=
  guarded_callsOnce h fun _ => finish_callsOnce <| (hc { s with hph := .idle }).imp fun _ =>
    SameCaller.callsOnce_trans (t := { s with hph := .idle }) {}

/-- Every operation of an agent but OVF.ADDR calls at most once, and does not set FIRST. -/
theorem exec_callsOnce {i : Instr} {s t : State} (ha : agentOf i ≠ .microOperation)
    (hi : i ≠ .ovfAddr) (h : exec i s = .next t) : CallsOnce s t := by
  have hbus (hm : agentOf i = .master ∨ agentOf i = .guardCounter) : CallsOnce s t := by
    obtain ⟨_, _, _, _, hfirst, _, hcalls, _, _⟩ :=
      onlyHandlersAndStartupWriteTheEngineRecord s t i hm h
    exact .silent hcalls fun hf => hfirst ▸ hf
  cases i with
  | ovfStop st => exact overflowStep_callsOnce enterWaitStart_silent.callsAtMostOnce h
  | ovfWaitStart => exact overflowStep_callsOnce (fault_silent _).callsAtMostOnce h
  | ovfAddr => exact absurd rfl hi
  | ovfPrepSend => exact overflowStep_callsOnce doPrepSend_callsAtMostOnce h
  | ovfSend => exact overflowStep_callsOnce afterSend_silent.callsAtMostOnce h
  | ovfRecvAck => exact overflowStep_callsOnce afterRecvAck_callsAtMostOnce h
  | ovfPrepRecv => exact overflowStep_callsOnce doPrepRecv_silent.callsAtMostOnce h
  | ovfRecv => exact overflowStep_callsOnce afterRecv_callsAtMostOnce h
  | ovfRecvProc => exact overflowStep_callsOnce afterRecvProc_callsAtMostOnce h
  | startH =>
    exact guarded_callsOnce h fun _ => finish_callsOnce (startBody_silent.callsAtMostOnce s)
  | gresumePrepSend => exact resumeStep_callsOnce prepSendCont_callsAtMostOnce h
  | gresumePrepRecv => exact resumeStep_callsOnce prepRecvCont_silent.callsAtMostOnce h
  | bit m => exact hbus (.inl rfl)
  | bstart => exact hbus (.inl rfl)
  | bstop => exact hbus (.inl rfl)
  | tick => exact hbus (.inr rfl)
  | init =>
    refine guarded_callsOnce h fun _ hk => ?_
    split at hk <;> cases hk
    · exact .silent rfl id
    · exact .silent rfl nofun
  | register a d =>
    refine guarded_callsOnce h fun _ hk => ?_
    split at hk
    · cases hk; exact .silent rfl id
    · split at hk <;> cases hk
      · exact .silent rfl id
      · unfold insertSlot; split <;> exact .silent rfl id
  | _ => exact absurd rfl ha

/-- What OVF.ADDR does to CALLS and FIRST: no call, and FIRST is set only with a slot active. -/
def DecodesSilently (s t : State) : Prop :=
  t.calls = s.calls ∧ (t.first = true → s.first = true ∨ t.activeValid = true)

/-- The slot found is made active, and no device is called (R156). -/
theorem decodeAddress_leaves (s : State) : (decodeAddress s).Leaves (DecodesSilently s) := by
  cases hl : s.lookup (addrOf s.usr) with
  | none =>
    rw [decodeAddress_of_no_match hl]
    exact (enterWaitStart_silent s).imp fun _ ht => ⟨ht.calls, fun hf => .inl (ht.first ▸ hf)⟩
  | some r =>
    rw [decodeAddress_of_match hl]
    by_cases hh : s.sclHeld = true
    · rw [ack_of_held (by exact hh)]
      exact ⟨rfl, fun _ => .inr rfl⟩
    · rw [lpDrive_of_not_held (by exact Bool.eq_false_iff.mpr hh)]
      trivial

theorem exec_ovfAddr_decodesSilently {s t : State} (h : exec .ovfAddr s = .next t) :
    DecodesSilently s t := by
  have hself (u : State) (hc : u.calls = s.calls) (hf : u.first = s.first) :
      DecodesSilently s u := ⟨hc, fun hu => .inl (hf ▸ hu)⟩
  refine guarded_next (Q := DecodesSilently s) h (hself _ rfl rfl) fun _ _ hk => ?_
  obtain ht | ⟨c, rfl⟩ := finish_next (decodeAddress_leaves (gPrep s)) hk
  · exact ht
  · exact hself _ rfl rfl

/-- Settles O42: OVF.ADDR makes no call, and every other operation at most one, without setting
FIRST. -/
theorem callsGoToTheActiveSlotAndClearFirst :
    Obligations.CallsGoToTheActiveSlotAndClearFirst := by
  intro s t i ha h
  by_cases hi : i = .ovfAddr
  · subst hi
    obtain ⟨hcalls, hfirst⟩ := exec_ovfAddr_decodesSilently h
    refine ⟨.inl hcalls, fun hs ht => ⟨rfl, ?_, hcalls⟩⟩
    exact (hfirst ht).resolve_left (by simp [hs])
  · cases exec_callsOnce ha hi h with
    | silent hc hf => exact ⟨.inl hc, fun hs ht => nomatch hs.symm.trans (hf ht)⟩
    | tx v hc hf => exact ⟨.inr ⟨hf, .inl ⟨v, hc⟩⟩, fun _ ht => nomatch hf.symm.trans ht⟩
    | rx c hc hf => exact ⟨.inr ⟨hf, .inr ⟨c, hc⟩⟩, fun _ ht => nomatch hf.symm.trans ht⟩

end Sys2Proof.Machine
end

section
/-! The events of the bus (R220 to R223): a bit, a start and a stop, where they are enabled and
before INIT. -/

namespace Sys2Proof.Machine

/-- The slave's drive is bit 7 of USR while the engine drives SDA, else released (R39). -/
theorem sOut_eq (s : State) :
    s.sOut = if s.engLive = true ∧ s.sdaOe = true then s.usr.getLsbD 7 else true := by
  simp [State.sOut]

theorem sOut_of_not_live {s : State} (h : s.engLive = false) : s.sOut = true := by
  simp [State.sOut, h]

theorem sclHeld_of_not_live {s : State} (h : s.engLive = false) : s.sclHeld = false := by
  simp [State.sclHeld, h]

/-- A shift puts the sampled bit below the seven low bits of USR (R32). -/
theorem shiftIn_eq_append (u : Byte) (d : Bool) :
    shiftIn u d = u.extractLsb' 0 7 ++ (if d = true then 1#1 else 0#1) := by
  refine BitVec.eq_of_getElem_eq fun i hi => ?_
  rw [BitVec.getElem_append]
  cases i with
  | zero => cases d <;> simp [getElem_shiftIn_zero]
  | succ i =>
    rw [getElem_shiftIn_succ u d hi]
    simpa using (BitVec.getLsbD_eq_getElem (Nat.lt_of_succ_lt hi)).symm

/-- Where nothing is pending, counting a bit sets OVF_FLAG exactly when it was the last (R220). -/
theorem bitCounted_ovfFlag {s : State} (h : s.ovfFlag = false) (m : Bool) :
    (bitCounted m s).ovfFlag = decide (s.cntLeft = 1) := by
  have hlast : s.cntLeft - 1 = 0 ↔ s.cntLeft = 1 := by bv_omega
  simp only [bitCounted, hlast, h]
  simp

theorem exec_bit_of_free {s : State} (hs : s.Ready) (hfree : s.sclHeld = false) (m : Bool) :
    exec (.bit m) s = finish (encode (.bit m)) s (busBit m s) :=
  guarded_of_ready hs.1 hs.2 hfree

/-- Settles O25: a free line leaves the body of the bit, and its three cases are those of
`busBit`. -/
theorem busBitSamplesAndShifts : Obligations.BusBitSamplesAndShifts := by
  intro s m hs drive d tr
  have hout : s.sOut = drive := sOut_eq s
  have hsampled : s.sampled m = d := congrArg (m && ·) hout
  have htrace : s.trace ++ [s.bitEvent m] = tr := by
    simp only [State.bitEvent, hout, hsampled, tr, d]
  refine ⟨by cases m <;> rfl, fun hh => guarded_of_not_enabled hs.1 hs.2 (by simp [hh]), ?_, ?_, ?_⟩
  · intro hfree hl ha hc
    have hovf : s.ovfFlag = false := by
      simp only [State.sclHeld, hl, Bool.true_and, Bool.or_eq_false_iff] at hfree
      exact hfree.1
    rw [exec_bit_of_free hs hfree, busBit_of_armed hl ha hc, ← bitCounted_ovfFlag hovf m,
      ← shiftIn_eq_append, ← htrace, ← hsampled]
    rfl
  · intro hfree ha
    rw [exec_bit_of_free hs hfree, busBit_of_not_armed ha, ← htrace]
    rfl
  · intro hfree hl ha hc
    rw [exec_bit_of_free hs hfree, busBit_of_none_left hl ha hc]
    rfl

/-- A flag that the peripheral sets only while the engine runs. -/
theorem set_if_live (live flag : Bool) : (if live then true else flag) = (flag || live) := by
  cases live <;> simp

/-- Settles O26: the condition of R221 is the guard of BSTART. -/
theorem startConditionSetsStartFlag : Obligations.StartConditionSetsStartFlag := by
  refine fun s hs => ⟨fun he => ?_, guarded_of_not_enabled hs.1 hs.2⟩
  rw [← set_if_live]
  exact guarded_of_ready hs.1 hs.2 he

/-- Settles O27: the condition of R221 is the guard of BSTOP too. -/
theorem stopConditionSetsStopFlag : Obligations.StopConditionSetsStopFlag := by
  refine fun s hs => ⟨fun he => ?_, guarded_of_not_enabled hs.1 hs.2⟩
  rw [← set_if_live]
  exact guarded_of_ready hs.1 hs.2 he

/-- No handler is enabled before INIT (R27). -/
theorem engineLabel_of_not_live {s : State} (h : s.engLive = false) : s.engineLabel = none := by
  have hno {P : Prop} : ¬ (s.engLive = true ∧ P) := by simp [h]
  unfold State.engineLabel
  rw [if_neg hno, if_neg hno, if_neg hno]

/-- Settles O28: before INIT the lines are released, so each event is enabled and sets no flag. -/
theorem busTrafficBeforeInitChangesOnlyTheTrace :
    Obligations.BusTrafficBeforeInitChangesOnlyTheTrace := by
  intro s m hs hl
  have hout : s.sOut = true := sOut_of_not_live hl
  refine ⟨?_, ?_, ?_, engineLabel_of_not_live hl⟩
  · rw [exec_bit_of_free hs (sclHeld_of_not_live hl), busBit_of_not_armed (by simp [hl])]
    simp [finish, bitTraced, State.bitEvent, State.sampled, hout]
  · rw [(startConditionSetsStartFlag s hs).1 ⟨.inr hl, hout⟩, hl, Bool.or_false]
  · rw [(stopConditionSetsStopFlag s hs).1 ⟨.inr hl, hout⟩, hl, Bool.or_false]

end Sys2Proof.Machine
end

section
/-! The line primitives run by their own words (R200 to R206, R210). -/

namespace Sys2Proof.Machine

theorem exec_lpRelSda_of_ready {s : State} (hs : s.Ready) :
    exec .lpRelSda s = finish 0xD000 s (lpRelSda s) :=
  microStep_of_ready hs .lpRelSda lpRelSda

theorem exec_lpDrive_of_ready {s : State} (hs : s.Ready) (b : Byte) :
    exec (.lpDrive b) s = finish (0xD100 ||| b.setWidth 16) s (lpDrive b s) :=
  microStep_of_ready hs (.lpDrive b) (lpDrive b)

theorem exec_lpArmStart_of_ready {s : State} (hs : s.Ready) :
    exec .lpArmStart s = finish 0xD300 s (lpArmStart s) :=
  microStep_of_ready hs .lpArmStart lpArmStart

/-- Settles O44: under the clock hold each primitive makes its writes. -/
theorem linePrimitivesUnderTheClockHold : Obligations.LinePrimitivesUnderTheClockHold := by
  intro s b hs hh
  refine ⟨?_, ?_, ?_⟩
  · rw [exec_lpRelSda_of_ready hs, lpRelSda_of_held hh]; rfl
  · rw [exec_lpDrive_of_ready hs, lpDrive_of_held hh]; rfl
  · rw [exec_lpArmStart_of_ready hs, lpArmStart_of_held hh]; rfl

/-- Settles O45: without the clock hold each primitive faults under its own word. -/
theorem dataLineChangeWithoutTheHoldFaults : Obligations.DataLineChangeWithoutTheHoldFaults := by
  intro s b hs hh
  refine ⟨?_, ?_, ?_⟩
  · rw [exec_lpRelSda_of_ready hs, lpRelSda_of_not_held hh]; rfl
  · rw [exec_lpDrive_of_ready hs, lpDrive_of_not_held hh]; rfl
  · rw [exec_lpArmStart_of_ready hs, lpArmStart_of_not_held hh]; rfl

/-- Settles O46: no hold is asked of these primitives, and only the counts 1 and 8 of LP.ARM. -/
theorem armAndFlagPrimitives : Obligations.ArmAndFlagPrimitives := by
  intro s n hs
  refine ⟨(microStep_of_ready hs .lpArm1 (lpArm 1)).trans ?_,
    (microStep_of_ready hs .lpArm8 (lpArm 8)).trans ?_, fun h1 h8 => lpArm_other h1 h8 s,
    microStep_of_ready hs .lpAckStart fun t => .ok () (lpAckStart t),
    microStep_of_ready hs .lpClrStop fun t => .ok () (lpClrStop t)⟩
  · rw [lpArm_one]; rfl
  · rw [lpArm_eight]; rfl

end Sys2Proof.Machine
end

section
/-! The end of an invocation (R211, R272): the overflow and the start no longer hold SCL, unless the
handler holds at the guard or stalls in a device call. -/

namespace Sys2Proof.Machine

open Sys2Proof.Spec

/-! ### The ways a stretch of a handler ends -/

/-- The stretch goes on in a state of `G`, or it pauses inside the handler, or it faults. -/
def Micro.Ends {α : Type} (G : State → Prop) : Micro α → Prop
  | .ok _ t => G t
  | .hold t => t.hph ≠ .idle
  | .fault _ => True

theorem Micro.Ends.bind {α β : Type} {G G' : State → Prop} {m : Micro α}
    {f : α → State → Micro β} (hm : m.Ends G) (hf : ∀ a t, G t → (f a t).Ends G') :
    (m.bind f).Ends G' := by
  cases m with
  | ok a t => exact hf a t hm
  | hold t => exact hm
  | fault c => trivial

/-- No start is pending. -/
def NoStart (s : State) : Prop := s.startFlag = false

/-- Neither a start nor an overflow is pending, so nothing holds SCL (R35). -/
structure Freed (s : State) : Prop where
  noStart : s.startFlag = false
  noOvf : s.ovfFlag = false

theorem Freed.not_held {s : State} (h : Freed s) : s.sclHeld = false := by
  simp [State.sclHeld, h.noStart, h.noOvf]

/-- With no start pending, the stretch `m` ends in a state of `G`, or pauses. -/
def EndsIn {α : Type} (G : State → Prop) (m : State → Micro α) : Prop :=
  ∀ s, NoStart s → (m s).Ends G

theorem EndsIn.bind {α β : Type} {G : State → Prop} {m : State → Micro α}
    {g : α → State → Micro β} (hm : EndsIn NoStart m) (hg : ∀ a, EndsIn G (g a)) :
    EndsIn G fun s => (m s).bind g :=
  fun s hs => (hm s hs).bind hg

theorem EndsIn.andThen {β : Type} {G : State → Prop} {m : State → Micro Unit}
    {g : State → Micro β} (hm : EndsIn NoStart m) (hg : EndsIn G g) :
    EndsIn G fun s => (m s).andThen g :=
  hm.bind fun _ => hg

/-- A write that makes no start pending, made before the stretch. -/
theorem EndsIn.after {α : Type} {G : State → Prop} {m : State → Micro α} {u : State → State}
    (hm : EndsIn G m) (hu : ∀ s, (u s).startFlag = s.startFlag) : EndsIn G fun s => m (u s) :=
  fun s hs => hm (u s) ((hu s).trans hs)

theorem EndsIn.ite {α : Type} {G : State → Prop} {c : State → Prop} [DecidablePred c]
    {m n : State → Micro α} (hm : EndsIn G m) (hn : EndsIn G n) :
    EndsIn G fun s => if c s then m s else n s := by
  intro s hs
  by_cases h : c s
  · simp only [if_pos h]; exact hm s hs
  · simp only [if_neg h]; exact hn s hs

theorem fault_endsIn {α : Type} {G : State → Prop} (c : FaultCode) :
    EndsIn G fun _ => (.fault c : Micro α) :=
  fun _ _ => trivial

/-! ### The shared operations -/

theorem lpRelSda_endsIn : EndsIn NoStart lpRelSda := .ite (fun _ => id) (fault_endsIn _)

theorem lpDrive_endsIn (b : Byte) : EndsIn NoStart (lpDrive b) :=
  .ite (fun _ => id) (fault_endsIn _)

/-- A guard that is waited for pauses the handler (R133). -/
theorem gWait_endsIn : EndsIn NoStart gWait := .ite (fun _ => id) (fun _ _ => nofun)

/-- Arming the peripheral releases the overflow hold (R203). -/
theorem lpArm_endsIn (n : Nat) : EndsIn Freed (lpArm n) :=
  .ite (fun _ hs => ⟨hs, rfl⟩) (fault_endsIn _)

/-- Waiting for a start releases the overflow hold (R204). -/
theorem lpArmStart_endsIn : EndsIn Freed lpArmStart := .ite (fun _ hs => ⟨hs, rfl⟩) (fault_endsIn _)

/-- A call that never returns pauses the handler for good (R244). -/
theorem CallEnds.ends {α : Type} {s : State} {i : Nat} {m : Micro α} (h : CallEnds s i m)
    (hs : NoStart s) : m.Ends NoStart := by
  cases h with
  | noDevice => trivial
  | reply ha v c => rw [drawAnswer_frame ha]; exact hs
  | stall => exact nofun

/-! ### The procedures and actions of the handlers -/

theorem enterWaitStart_endsIn : EndsIn Freed enterWaitStart := lpArmStart_endsIn.after fun _ => rfl

theorem enterAddr_endsIn : EndsIn Freed enterAddr :=
  .andThen (lpRelSda_endsIn.after fun _ => rfl) (lpArm_endsIn 8)

theorem prepRecvCont_endsIn : EndsIn Freed prepRecvCont :=
  .andThen (lpRelSda_endsIn.after fun _ => rfl) (lpArm_endsIn 8)

theorem doPrepRecv_endsIn : EndsIn Freed doPrepRecv :=
  .andThen (gWait_endsIn.after fun _ => rfl) prepRecvCont_endsIn

theorem prepSendCont_endsIn : EndsIn Freed prepSendCont :=
  .ite
    (.bind (fun s => (callTransmit_ends s.activeIdx s.first s).ends) fun v =>
      .andThen ((lpDrive_endsIn v).after fun _ => rfl) (lpArm_endsIn 8))
    (fault_endsIn _)

theorem doPrepSend_endsIn : EndsIn Freed doPrepSend :=
  .andThen (gWait_endsIn.after fun _ => rfl) prepSendCont_endsIn

theorem driveAck_endsIn : EndsIn Freed fun s => (lpDrive ackDrive s).andThen (lpArm 1) :=
  .andThen (lpDrive_endsIn ackDrive) (lpArm_endsIn 1)

theorem decodeAddress_endsIn : EndsIn Freed decodeAddress := by
  intro s hs
  cases h : s.lookup (addrOf s.usr) with
  | none => rw [decodeAddress_of_no_match h]; exact enterWaitStart_endsIn s hs
  | some r => rw [decodeAddress_of_match h]; exact driveAck_endsIn (addressSlot r s) hs

theorem afterSend_endsIn : EndsIn Freed afterSend :=
  .andThen (lpRelSda_endsIn.after fun _ => rfl) (lpArm_endsIn 1)

theorem afterRecvAck_endsIn : EndsIn Freed afterRecvAck :=
  .ite enterWaitStart_endsIn doPrepSend_endsIn

theorem afterRecv_endsIn : EndsIn Freed afterRecv := driveAck_endsIn.after fun _ => rfl

theorem afterRecvProc_endsIn : EndsIn Freed afterRecvProc :=
  .ite
    (.bind (fun s => (callReceive_ends s.activeIdx s.first s.rxbuf s).ends) fun _ =>
      .ite (doPrepRecv_endsIn.after fun _ => rfl) (enterAddr_endsIn.after fun _ => rfl))
    (fault_endsIn _)

/-- START.H acknowledges the start that holds the clock (R151). -/
theorem startBody_ends {s : State} (h : s.StartEnabled) : (startBody s).Ends Freed := by
  rw [startBody_of_held h.held]
  exact ⟨rfl, rfl⟩

/-! ### The overflow handler as one table of actions -/

/-- The action that STOP_FLAG and ENG_STATE select (R152); tied to the operations by
`exec_overflowOf`. -/
def overflowAction : Bool → EngState → State → Micro Unit
  | true, _ => enterWaitStart
  | false, .waitStart => fun _ => .fault .ovfInWaitStart
  | false, .addr => decodeAddress
  | false, .prepSend => doPrepSend
  | false, .send => afterSend
  | false, .recvAck => afterRecvAck
  | false, .prepRecv => doPrepRecv
  | false, .recv => afterRecv
  | false, .recvProc => afterRecvProc

theorem exec_overflowOf (stop : Bool) (st : EngState) (s : State) :
    exec (overflowOf stop st) s =
      overflowStep (overflowOf stop st) stop st (overflowAction stop st) s := by
  cases stop <;> cases st <;> rfl

theorem overflowAction_keeps : ∀ stop st, Keeps (overflowAction stop st)
  | true, _ => enterWaitStart_keeps
  | false, .waitStart => fault_keeps _
  | false, .addr => decodeAddress_keeps
  | false, .prepSend => doPrepSend_keeps
  | false, .send => afterSend_keeps
  | false, .recvAck => afterRecvAck_keeps
  | false, .prepRecv => doPrepRecv_keeps
  | false, .recv => afterRecv_keeps
  | false, .recvProc => afterRecvProc_keeps

theorem overflowAction_endsIn : ∀ stop st, EndsIn Freed (overflowAction stop st)
  | true, _ => enterWaitStart_endsIn
  | false, .waitStart => fault_endsIn _
  | false, .addr => decodeAddress_endsIn
  | false, .prepSend => doPrepSend_endsIn
  | false, .send => afterSend_endsIn
  | false, .recvAck => afterRecvAck_endsIn
  | false, .prepRecv => doPrepRecv_endsIn
  | false, .recv => afterRecv_endsIn
  | false, .recvProc => afterRecvProc_endsIn

/-! ### An engine step under the invariant -/

/-- A paused handler keeps the overflow pending, and so the clock held (INV5, INV2). -/
theorem Running.paused {s : State} (h : Running s) (hp : s.hph ≠ .idle) :
    s.sclHeld = true ∧ s.startFlag = false := by
  have hovf : s.ovfFlag = true := by
    cases hh : s.hph with
    | idle => exact absurd hh hp
    | gwait => exact (h.inv5.1 hh).1
    | stalled => exact h.inv5.2 hh
  have hinv2 := h.inv2
  simp only [State.Inv2, hovf, true_and, Bool.not_eq_true] at hinv2
  exact ⟨by simp [State.sclHeld, h.live, hovf], hinv2⟩

/-- What an engine step that completes leaves (R211, R272). -/
structure CompletesTo (s t : State) : Prop where
  fault : t.fault = none
  refused : t.refused = s.refused
  released : t.sclHeld = false ↔ t.hph = .idle
  noStart : t.startFlag = false
  trace : t.trace = s.trace

/-- In a running block, a state that freed the lines or paused the handler is one that an engine
step completes to. -/
theorem Running.completesTo {s t : State} (h : Running t) (hk : HandlerKeeps s t)
    (he : Freed t ∨ t.hph ≠ .idle) : CompletesTo s t := by
  have hclock : (t.sclHeld = false ↔ t.hph = .idle) ∧ t.startFlag = false := by
    by_cases hidle : t.hph = .idle
    · obtain hfreed | hp := he
      · exact ⟨iff_of_true hfreed.not_held hidle, hfreed.noStart⟩
      · exact absurd hidle hp
    · obtain ⟨hheld, hns⟩ := h.paused hidle
      exact ⟨iff_of_false (by simp [hheld]) hidle, hns⟩
  exact ⟨h.fault, hk.refused, hclock.1, hclock.2, hk.trace⟩

/-- An engine operation that is its body completes: the body does not fault, because the invariant
is kept. -/
theorem Running.exec_completes {i : Instr} {l : Op16} {s : State} {m : Micro Unit} (h : Running s)
    (ha : agentOf i = .engine) (hexec : exec i s = finish l s m) (hk : m.Leaves (HandlerKeeps s))
    (he : m.Ends Freed) : ∃ t, exec i s = .next t ∧ CompletesTo s t := by
  have hrun {t : State} (ht : exec i s = .next t) : Running t := h.exec_running (by simp [ha]) ht
  cases m with
  | ok a t => exact ⟨t, hexec, (hrun hexec).completesTo hk (.inl he)⟩
  | hold t => exact ⟨t, hexec, (hrun hexec).completesTo hk (.inr he)⟩
  | fault c => exact nomatch (hrun hexec).fault

/-- START.H completes where it is enabled (R151). -/
theorem Running.startH_completes {s : State} (h : Running s) (hc : s.cfg.Wf)
    (he : s.StartEnabled) : ∃ t, exec .startH s = .next t ∧ CompletesTo s t :=
  h.exec_completes rfl (guarded_of_ready h.fault hc he) (startBody_keeps s hc) (startBody_ends he)

/-- The overflow handler completes where it is enabled (R152). -/
theorem Running.overflow_completes {s : State} (h : Running s) (hc : s.cfg.Wf)
    (he : s.OvfEnabled) :
    ∃ t, exec (overflowOf s.stopFlag s.engState) s = .next t ∧ CompletesTo s t := by
  have hkeeps := (overflowAction_keeps s.stopFlag s.engState (gPrep s) hc).imp
    fun _ => (gPrep_keeps hc).trans
  exact h.exec_completes (agentOf_overflowOf _ _)
    ((exec_overflowOf _ _ s).trans (overflowStep_of_enabled ⟨h.fault, hc⟩ he rfl rfl _ _)) hkeeps
    (overflowAction_endsIn _ _ (gPrep s) (h.handling he).noStart)

/-- The continuation of a guard wait completes where it is enabled (R134). -/
theorem Running.resumeStep_completes {i : Instr} {st : EngState} {cont : State → Micro Unit}
    {s : State} (h : Running s) (hc : s.cfg.Wf) (he : s.ResumeEnabled) (hst : s.engState = st)
    (ha : agentOf i = .engine) (hi : exec i s = resumeStep i st cont s) (hk : Keeps cont)
    (hf : EndsIn Freed cont) : ∃ t, exec i s = .next t ∧ CompletesTo s t :=
  h.exec_completes ha (hi.trans (resumeStep_of_enabled ⟨h.fault, hc⟩ he hst i cont))
    (hk.after (u := fun s => { s with hph := .idle }) (fun _ => {}) s hc)
    (hf { s with hph := .idle } (h.resumed he.2.1).noStart)

/-- A guard wait is in one of the two states that a resume goes on from (R134, INV5). -/
theorem Running.resume_completes {s : State} (h : Running s) (hc : s.cfg.Wf)
    (he : s.ResumeEnabled) :
    ∃ i, resumeOf s.engState = some i ∧ ∃ t, exec i s = .next t ∧ CompletesTo s t := by
  obtain hst | hst := (h.inv5.1 he.2.1).2
  · exact ⟨.gresumePrepSend, hst ▸ rfl,
      h.resumeStep_completes hc he hst rfl rfl prepSendCont_keeps prepSendCont_endsIn⟩
  · exact ⟨.gresumePrepRecv, hst ▸ rfl,
      h.resumeStep_completes hc he hst rfl rfl prepRecvCont_keeps prepRecvCont_endsIn⟩

/-- Under the invariant, each label is of an operation that completes (R103). -/
theorem Running.engine_completes {s : State} {w : Op16} (h : Running s) (hc : s.cfg.Wf)
    (hw : s.engineLabel = some w) :
    ∃ i, decode w Dev.absent = some i ∧ ∃ t, exec i s = .next t ∧ CompletesTo s t := by
  obtain ⟨hs, rfl⟩ | ⟨ho, rfl⟩ | ⟨hr, rfl⟩ := enabled_of_engineLabel hw
  · exact ⟨_, decode_startLabel _, h.startH_completes hc hs⟩
  · exact ⟨_, decode_ovfLabel s _, h.overflow_completes hc ho⟩
  · rw [decode_resumeLabel]; exact h.resume_completes hc hr

/-- Settles O55: an enabled label is of a running block, where its operation completes. -/
theorem enabledHandlersCompleteAndReleaseTheClock :
    Obligations.EnabledHandlersCompleteAndReleaseTheClock := by
  intro s w hinv hc hsched hw
  obtain ⟨hrun | hdormant, -⟩ := (inv_iff s).mp hinv
  · obtain ⟨i, hd, t, ht, hto⟩ := hrun.engine_completes hc hw
    have hstep : step s = exec i s := (stepFollowsTheEagerSchedule s hrun.fault hsched).1 w i hw hd
    exact ⟨t, hstep.trans ht, hto.fault, hto.refused, hto.released, hto.noStart, hto.trace⟩
  · simp [engineLabel_of_not_live hdormant.notLive] at hw

end Sys2Proof.Machine
end

section
/-! The startup code's INIT (R240), the capability calls (R241, R242, R248), and what is left after a
call that never returns (R244). -/

namespace Sys2Proof.Machine

open Sys2Proof.Spec

/-! ### INIT (R240) -/

theorem exec_init_of_live {s : State} (hs : s.Ready) (hl : s.engLive = true) :
    exec .init s = .next (s.refuse .initTwice (some (encode .init))) :=
  (guarded_of_ready hs.1 hs.2 trivial).trans (by rw [if_pos hl])

theorem exec_init_of_not_live {s : State} (hs : s.Ready) (hl : s.engLive = false) :
    exec .init s = .next (initState s) :=
  (guarded_of_ready hs.1 hs.2 trivial).trans (by rw [if_neg (by simp [hl])])

/-- The fields that INIT leaves to any value are drawn within their widths (R22, R33, R41, R50). -/
theorem initState_drawn_within_widths (s : State) :
    (initState s).cntLeft ≤ 8 ∧ (initState s).activeIdx < 2 ^ s.cfg.slotW ∧
      (initState s).gcnt < 2 ^ s.cfg.guardCntW :=
  have hcnt : BitVec.ofNat 4 (Config.anyCntLeft s.draws % 9) ≤ 8 := by bv_omega
  ⟨hcnt, Nat.mod_lt _ (Nat.two_pow_pos _), Nat.mod_lt _ (Nat.two_pow_pos _)⟩

/-- Settles O36: the first INIT is `initState`, whose own drawn fields are the five values, and a
second one is refused. -/
theorem initResetsTheEngineAndKeepsTheRegistry :
    Obligations.InitResetsTheEngineAndKeepsTheRegistry := by
  intro s hs
  refine ⟨rfl, fun hl => ?_, exec_init_of_live hs⟩
  obtain ⟨hcnt, hidx, hgcnt⟩ := initState_drawn_within_widths s
  exact ⟨(initState s).usr, (initState s).cntLeft, (initState s).activeIdx, (initState s).gcnt,
    (initState s).gflag, hcnt, hidx, hgcnt, exec_init_of_not_live hs hl⟩

/-! ### The order of a device's answers (R248) -/

theorem takeAnswer_of_none_waiting {d : Dev} {l : List (Dev × Config.Answer)}
    (h : (l.filter fun p => decide (p.1 = d)) = []) : takeAnswer d l = none := by
  induction l with
  | nil => rfl
  | cons p l ih =>
    have hp : p.1 ≠ d := by simpa using List.filter_eq_nil_iff.mp h p List.mem_cons_self
    rw [List.filter_cons_of_neg (by simpa using hp)] at h
    rw [takeAnswer, if_neg hp, ih h]
    rfl

/-- A device takes its oldest waiting answer, and what is left is the same list without it. -/
theorem takeAnswer_of_waiting {d : Dev} {a : Config.Answer} {l rest : List (Dev × Config.Answer)}
    (h : (l.filter fun p => decide (p.1 = d)) = (d, a) :: rest) :
    ∃ l', takeAnswer d l = some (a, l') ∧ (l'.filter fun p => decide (p.1 = d)) = rest ∧
      ∀ e, e ≠ d → (l'.filter fun p => decide (p.1 = e)) = l.filter fun p => decide (p.1 = e) := by
  induction l with
  | nil => cases h
  | cons p l ih =>
    by_cases hp : p.1 = d
    · rw [List.filter_cons_of_pos (by simpa using hp)] at h
      obtain ⟨rfl, hrest⟩ := List.cons.inj h
      refine ⟨l, if_pos rfl, hrest, fun e he => ?_⟩
      rw [List.filter_cons_of_neg (by simpa using he.symm)]
    · rw [List.filter_cons_of_neg (by simpa using hp)] at h
      obtain ⟨l', htake, hown, hothers⟩ := ih h
      refine ⟨p :: l', ?_, ?_, fun e he => ?_⟩
      · rw [takeAnswer, if_neg hp, htake]
        rfl
      · rw [List.filter_cons_of_neg (by simpa using hp), hown]
      · rw [List.filter_cons, List.filter_cons, hothers e he]

/-- Settles O41: a draw takes the device's oldest waiting answer, else a free value. -/
theorem deviceAnswersComeInCallOrder : Obligations.DeviceAnswersComeInCallOrder := by
  refine fun s d => ⟨fun a rest hw => ?_, fun hw => ⟨Config.freeAnswer s.draws, ?_⟩⟩
  · obtain ⟨l, htake, hown, hothers⟩ := takeAnswer_of_waiting hw
    refine ⟨l, ?_, hown, hothers⟩
    rw [drawAnswer_eq, nextAnswer, htake]
  · rw [drawAnswer_eq, nextAnswer, takeAnswer_of_none_waiting hw]

/-! ### The calls by their own words (R241, R242, R244) -/

section
variable {s t : State} {d : Dev} (hd : ActiveDevice s d) (f : Bool) (b : Byte)
include hd

theorem txCall_of_reply {v : Byte} {m : Bool} (ha : s.drawAnswer d = (.reply v m, t)) :
    txCall f s =
      .ok () { t with calls := t.calls ++ [.tx s.activeIdx f v], result := .byte v } := by
  rw [txCall, if_pos hd.1, callTransmit_of_reply hd.2 ha, Micro.bind_ok]

theorem txCall_of_stall (ha : s.drawAnswer d = (.stall, t)) : txCall f s = .hold t.stall := by
  rw [txCall, if_pos hd.1, callTransmit_of_stall hd.2 ha, Micro.bind_hold]

theorem rxCall_of_reply {v : Byte} {m : Bool} (ha : s.drawAnswer d = (.reply v m, t)) :
    rxCall f b s =
      .ok () { t with calls := t.calls ++ [.rx s.activeIdx f b m], result := .more m } := by
  rw [rxCall, if_pos hd.1, callReceive_of_reply hd.2 ha, Micro.bind_ok]

theorem rxCall_of_stall (ha : s.drawAnswer d = (.stall, t)) : rxCall f b s = .hold t.stall := by
  rw [rxCall, if_pos hd.1, callReceive_of_stall hd.2 ha, Micro.bind_hold]

end

theorem exec_txcall_of_ready {s : State} (hs : s.Ready) (f : Bool) :
    exec (.txcall f) s = finish (encode (.txcall f)) s (txCall f s) :=
  microStep_of_ready hs (.txcall f) (txCall f)

theorem exec_rxcall_of_ready {s : State} (hs : s.Ready) (f : Bool) (b : Byte) :
    exec (.rxcall f b) s = finish (encode (.rxcall f b)) s (rxCall f b s) :=
  microStep_of_ready hs (.rxcall f b) (rxCall f b)

/-- Settles O40: each word runs its call on the active slot, which records the answer or holds. -/
theorem capabilityCallsRecordOrStall : Obligations.CapabilityCallsRecordOrStall := by
  refine fun s d f b hs hd => ⟨fun v m t ha => ⟨?_, ?_⟩, fun t ha => ⟨?_, ?_⟩⟩
  · rw [exec_txcall_of_ready hs, txCall_of_reply hd f ha]; rfl
  · rw [exec_rxcall_of_ready hs, rxCall_of_reply hd f b ha]; rfl
  · rw [exec_txcall_of_ready hs, txCall_of_stall hd f ha]; rfl
  · rw [exec_rxcall_of_ready hs, rxCall_of_stall hd f b ha]; rfl

/-! ### After a stall (R244) -/

theorem engineLabel_of_stalled {s : State} (h : s.hph = .stalled) : s.engineLabel = none := by
  refine Option.eq_none_iff_forall_ne_some.mpr fun w hw => ?_
  obtain ⟨⟨_, hp, _⟩, _⟩ | ⟨⟨_, hp, _⟩, _⟩ | ⟨⟨_, hp, _⟩, _⟩ := enabled_of_engineLabel hw <;>
    cases h.symm.trans hp

/-- An overflow that is not yet served holds SCL, and shuts the master out (R35, R220 to R222). -/
theorem exec_master_not_enabled_of_ovfFlag {s : State} {i : Instr} (hs : s.Ready)
    (hl : s.engLive = true) (ho : s.ovfFlag = true) (ha : agentOf i = .master) :
    exec i s = .refused (.notEnabled (encode i)) := by
  have hheld : s.sclHeld = true := by simp [State.sclHeld, hl, ho]
  have hshut : ¬ s.BusConditionEnabled := by simp [State.BusConditionEnabled, hl, ho]
  obtain ⟨m, rfl⟩ | rfl | rfl | rfl := master_or_guardCounter_cases (.inl ha)
  · exact (execBit_not_enabled_iff hs m).mpr hheld
  · exact guarded_of_not_enabled hs.1 hs.2 hshut
  · exact guarded_of_not_enabled hs.1 hs.2 hshut
  · cases ha

/-- Settles O43: the engine has no label, the hold shuts the master out, and TICK writes the guard
only. -/
theorem stalledEngineOnlyTicks : Obligations.StalledEngineOnlyTicks := by
  intro s i hs hl hp ho
  refine ⟨?_, guardTick s, exec_tick_of_ready hs, (guardTick_hph s).trans hp,
    (guardTick_ovfFlag s).trans ho⟩
  rintro (ha | ha)
  · refine (engineOperationRunsExactlyUnderItsLabel s i hs ha).mpr ?_
    rw [engineLabel_of_stalled hp]
    nofun
  · exact exec_master_not_enabled_of_ovfFlag hs hl ho ha

end Sys2Proof.Machine
end

section
/-! Faults (R261, R262): a state without one answers none, under the invariant none is recorded, and
a call that reaches no device records FT_NO_ACTIVE. And what a TICK leaves alone (R270). -/

namespace Sys2Proof.Machine

/-! ### The answer of a recorded fault (R261) -/

/-- Settles O11: `step` and the guard of every operation look at FAULT first. -/
theorem faultedStateHasNoStep : Obligations.FaultedStateHasNoStep := by
  refine fun s c l hf => ⟨step_of_faulted hf, fun i => ?_⟩
  obtain ⟨p, hp, k, h⟩ := exec_eq_guarded i s
  rw [h, guarded_of_faulted hf]

/-- The guard answers a fault only where one is recorded. -/
theorem guarded_ne_fault {w : Op16} {p : Prop} [Decidable p] {s : State}
    {k : Host.Outcome State Fault Refusal} {r : Fault} (hf : s.fault = none)
    (hk : k ≠ .fault r) : guarded w p s k ≠ .fault r := by
  by_cases hc : s.cfg.Wf
  · by_cases hp : p
    · rwa [guarded_of_ready hf hc hp]
    · rw [guarded_of_not_enabled hf hc hp]
      nofun
  · rw [guarded_of_bad_config hf hc]
    nofun

/-- A fault that a handler raises is recorded in its next state, not answered. -/
theorem finish_ne_fault (l : Op16) (s : State) (m : Micro Unit) (r : Fault) :
    finish l s m ≠ .fault r := by
  cases m <;> nofun

theorem exec_ne_fault {s : State} (hf : s.fault = none) (i : Instr) (r : Fault) :
    exec i s ≠ .fault r := by
  cases i with
  | bstart | bstop | tick | init | register | lookup => exact guarded_ne_fault hf nofun
  | _ => exact guarded_ne_fault hf (finish_ne_fault _ _ _ r)

theorem takeOffer_ne_fault {s : State} (hf : s.fault = none) (o : Offer) (r : Fault) :
    takeOffer o s ≠ .fault r := by
  cases hd : decodeOffer o with
  | none =>
    rw [takeOffer_of_invalid s hd]
    exact guarded_ne_fault hf nofun
  | some i =>
    cases ha : offerAllows i o with
    | false =>
      rw [takeOffer_of_not_allowed s hd ha]
      exact guarded_ne_fault hf nofun
    | true =>
      rw [takeOffer_of_allowed s hd ha]
      exact exec_ne_fault hf i r

/-- With nothing left to take, the only fault answered is the stall (R244). -/
theorem noStepLeft_ne_recorded (s : State) (c : FaultCode) :
    noStepLeft s ≠ .fault (.recorded c) := by
  unfold noStepLeft
  split <;> nofun

theorem step_ne_recorded {s : State} (hf : s.fault = none) (c : FaultCode) :
    step s ≠ .fault (.recorded c) := by
  cases hu : s.fetch with
  | none =>
    rw [step_of_no_fetch hf hu]
    exact noStepLeft_ne_recorded s c
  | some q =>
    obtain ⟨o, u⟩ := q
    have hfu : u.fault = none := by rw [fetch_frame hu]; exact hf
    rw [step_of_fetch hf hu]
    exact takeOffer_ne_fault hfu o _

/-- Settles O54: FAULT = none is a clause of the invariant, which every step keeps, and a state
without a fault answers none. -/
theorem noFaultIsReachable : Obligations.NoFaultIsReachable := by
  intro s hs
  obtain ⟨hf, -⟩ := id hs
  refine ⟨fun t h => ?_, step_ne_recorded hf⟩
  obtain ⟨hft, -⟩ := invariantIsKeptByEveryStep s t hs h
  exact hft

/-! ### A call that reaches no device (R262 no. 2) -/

/-- There is no device to call: no slave is active, or its slot is not filled (log entry 8). -/
abbrev NoActiveDevice (s : State) : Prop :=
  s.activeValid = false ∨ s.slotDev? s.activeIdx = none

section
variable {s : State} (h : NoActiveDevice s)
include h

/-- Whatever call is made to the active slot, and whatever follows it, no device is reached. -/
theorem callActive_of_no_device {α β : Type} {m : Micro α}
    (hm : s.slotDev? s.activeIdx = none → m = .fault .noActive) (g : α → State → Micro β) :
    (if s.activeValid then m.bind g else .fault .noActive) = .fault .noActive := by
  cases hv : s.activeValid with
  | false => exact if_neg nofun
  | true => rw [if_pos rfl, hm (h.resolve_left (by simp [hv])), Micro.bind_fault]

theorem txCall_of_no_device (f : Bool) : txCall f s = .fault .noActive :=
  callActive_of_no_device h callTransmit_of_no_device _

theorem rxCall_of_no_device (f : Bool) (b : Byte) : rxCall f b s = .fault .noActive :=
  callActive_of_no_device h callReceive_of_no_device _

theorem prepSendCont_of_no_device : prepSendCont s = .fault .noActive :=
  callActive_of_no_device h callTransmit_of_no_device _

theorem afterRecvProc_of_no_device : afterRecvProc s = .fault .noActive :=
  callActive_of_no_device h callReceive_of_no_device _

/-- Without a guard wait, the request of a byte is the call. -/
theorem doPrepSend_of_no_device (hn : s.cfg.guardPresent = false) :
    doPrepSend (gPrep s) = .fault .noActive := by
  rw [gPrep_of_absent hn, doPrepSend_of_absent hn, prepSendCont_of_no_device (by exact h)]

end

/-- Settles O22: each body comes to a call that reaches no device, and its writes are discarded. -/
theorem callOfNoFilledSlotFaults : Obligations.CallOfNoFilledSlotFaults := by
  refine fun s f b hs h => ⟨?_, ?_, fun ho hstop he => ?_, fun ho hstop he hn => ?_,
    fun ho hstop he hack hn => ?_, fun hr he => ?_⟩
  · rw [exec_txcall_of_ready hs, txCall_of_no_device h]
    rfl
  · rw [exec_rxcall_of_ready hs, rxCall_of_no_device h]
    rfl
  · refine (overflowStep_of_enabled hs ho hstop he .ovfRecvProc afterRecvProc).trans ?_
    rw [afterRecvProc_of_no_device (s := gPrep s) h]
    rfl
  · refine (overflowStep_of_enabled hs ho hstop he .ovfPrepSend doPrepSend).trans ?_
    rw [doPrepSend_of_no_device h hn]
    rfl
  · refine (overflowStep_of_enabled hs ho hstop he .ovfRecvAck afterRecvAck).trans ?_
    rw [afterRecvAck_of_ack (by exact hack), doPrepSend_of_no_device h hn]
    rfl
  · refine (resumeStep_of_enabled hs hr he .gresumePrepSend prepSendCont).trans ?_
    rw [prepSendCont_of_no_device (s := { s with hph := .idle }) h]
    rfl

/-! ### What a tick leaves alone (R270) -/

/-- A tick that answers a next state is `guardTick`. -/
theorem eq_guardTick_of_exec_tick {s t : State} (hc : s.cfg.Wf) (h : exec .tick s = .next t) :
    t = guardTick s := by
  obtain ⟨hf, -⟩ := guarded_next_cases h
  rw [exec_tick_of_ready ⟨hf, hc⟩] at h
  cases h
  rfl

/-- A tick sets GFLAG or leaves it, so it does not close the guard for a waiting handler (R132). -/
theorem guardTick_resumeEnabled {s : State} (h : s.ResumeEnabled) :
    (guardTick s).ResumeEnabled := by
  obtain ⟨hlive, hwait, hflag⟩ := h
  exact ⟨hlive, hwait, by rw [guardTick_gflag, hflag, ite_self]⟩

/-- Settles O50: `guardTick` writes GCNT and GFLAG, of which only GRESUME reads one. -/
theorem tickLeavesHandlersAndLinesAlone : Obligations.TickLeavesHandlersAndLinesAlone := by
  intro s t hc h
  obtain rfl := eq_guardTick_of_exec_tick hc h
  exact ⟨Iff.rfl, Iff.rfl, guardTick_resumeEnabled, rfl, rfl, rfl⟩

end Sys2Proof.Machine
end

section
/-! WaitStart is left by START.H alone (R168, R173, R304), and the block at power-on (R300). -/

namespace Sys2Proof.Machine

/-! ### Steps that stay in WaitStart -/

/-- The engine waits for a start (R21). -/
abbrev InWaitStart (s : State) : Prop := s.engState = .waitStart

theorem lpArmStart_engState (s : State) :
    (lpArmStart s).Leaves fun t => t.engState = s.engState := by
  by_cases h : s.sclHeld = true
  · rw [lpArmStart_of_held h]; rfl
  · rw [lpArmStart_of_not_held (Bool.eq_false_iff.mpr h)]; trivial

theorem enterWaitStart_inWaitStart (s : State) : (enterWaitStart s).Leaves InWaitStart :=
  lpArmStart_engState { s with engState := .waitStart, activeValid := false }

theorem insertSlot_inWaitStart {s : State} (h : InWaitStart s) (a : BusAddr) (d : Dev) :
    InWaitStart (insertSlot a d s) := by
  unfold insertSlot
  split <;> exact h

/-- A fault is recorded in the state before the step, so it does not leave WaitStart (R261). -/
theorem finish_inWaitStart {l : Op16} {s t : State} {m : Micro Unit} (hw : InWaitStart s)
    (hm : m.Leaves InWaitStart) (h : finish l s m = .next t) : InWaitStart t := by
  obtain ht | ⟨c, rfl⟩ := finish_next hm h
  · exact ht
  · exact hw

/-- The overflow handler taken in WaitStart is one whose label names WaitStart, so only that label's
action has to stay (R152). -/
theorem overflowStep_inWaitStart {i : Instr} {stop : Bool} {st : EngState}
    {action : State → Micro Unit} {s t : State} (hw : InWaitStart s)
    (h : overflowStep i stop st action s = .next t)
    (ha : st = .waitStart → (action (gPrep s)).Leaves InWaitStart) : InWaitStart t :=
  guarded_next h hw fun _ ⟨_, _, he⟩ => finish_inWaitStart hw (ha (he.symm.trans hw))

/-- No handler waits at the guard in WaitStart, so none goes on from there (R134). -/
theorem resumeStep_inWaitStart {i : Instr} {st : EngState} {cont : State → Micro Unit}
    {s t : State} (hw : InWaitStart s) (h : resumeStep i st cont s = .next t)
    (hst : st ≠ .waitStart) : InWaitStart t :=
  guarded_next h hw fun _ ⟨_, he⟩ => absurd (he.symm.trans hw) hst

/-- Every operation of an agent but START.H stays in WaitStart. -/
theorem exec_inWaitStart {i : Instr} {s t : State} (ha : agentOf i ≠ .microOperation)
    (hi : i ≠ .startH) (hw : InWaitStart s) (h : exec i s = .next t) : InWaitStart t := by
  have hbus (hm : agentOf i = .master ∨ agentOf i = .guardCounter) : InWaitStart t := by
    obtain ⟨hst, -⟩ := onlyHandlersAndStartupWriteTheEngineRecord s t i hm h
    exact hst.trans hw
  cases i with
  | ovfStop st => exact overflowStep_inWaitStart hw h fun _ => enterWaitStart_inWaitStart _
  | ovfWaitStart =>
    exact overflowStep_inWaitStart (action := fun _ => .fault .ovfInWaitStart) hw h fun _ => trivial
  | ovfAddr | ovfPrepSend | ovfSend | ovfRecvAck | ovfPrepRecv | ovfRecv | ovfRecvProc =>
    exact overflowStep_inWaitStart hw h nofun
  | startH => exact absurd rfl hi
  | gresumePrepSend | gresumePrepRecv => exact resumeStep_inWaitStart hw h nofun
  | bit | bstart | bstop => exact hbus (.inl rfl)
  | tick => exact hbus (.inr rfl)
  | init =>
    refine guarded_next h hw fun _ _ hk => ?_
    split at hk <;> cases hk
    · exact hw
    · rfl
  | register a d =>
    refine guarded_next h hw fun _ _ hk => ?_
    split at hk
    · cases hk; exact hw
    · split at hk <;> cases hk
      · exact hw
      · exact insertSlot_inWaitStart hw _ d
  | _ => exact absurd rfl ha

/-! ### The step that leaves it -/

/-- START.H goes to Addr, unless the configuration is refused and nothing moves (R10, R151). -/
theorem exec_startH_engState {s t : State} (h : exec .startH s = .next t) :
    t.engState = .addr ∨ t.engState = s.engState := by
  refine guarded_next (Q := fun t => t.engState = .addr ∨ t.engState = s.engState) h (.inr rfl)
    fun _ he hk => .inl ?_
  rw [startBody_of_held he.held] at hk
  cases hk
  rfl

/-- Settles O48: every other operation stays, and START.H moves to Addr or not at all. -/
theorem onlyTheStartHandlerLeavesWaitStart : Obligations.OnlyTheStartHandlerLeavesWaitStart := by
  intro s t i ha hw h hleft
  by_cases hi : i = .startH
  · subst hi
    exact ⟨rfl, (exec_startH_engState h).resolve_right fun hst => hleft (hst.trans hw)⟩
  · exact absurd (exec_inWaitStart ha hi hw h) hleft

/-! ### Power-on (R300) -/

/-- Settles O51: `State.powerOn` writes each value, and the parameters of `State.reset` keep R9. -/
theorem powerOnValues : Obligations.PowerOnValues :=
  ⟨fun _ => ⟨rfl, rfl, rfl, rfl, rfl, rfl, rfl, rfl, rfl, rfl⟩, Config.vectorParams, by decide, rfl⟩

end Sys2Proof.Machine
end
